-- ==== Sys2Proof/Word.lean ====
section
/-! DEFINITION. The two word types of QRCORE: the byte of its buffers and field elements, and the 32-bit word of
its registers and command words (00_scope.md R8, R10; 10_state.md R32, R55). -/

namespace Sys2Proof

/-- A buffer byte, and an element of GF(256); an element of GF(16) is a byte below 16 (41_gf_arith.md R160). -/
abbrev Byte := BitVec 8

/-- A register, a command word, the data of one bus access (00_scope.md R8: BUS_WIDTH). -/
abbrev Word := BitVec 32

end Sys2Proof
end

