-- ==== Sys2Proof/Syntax.lean ====
section
/-! DEFINITION. The commands of QRCORE, one constructor per row of spec/opcode_table.json, and the fields of a command
word (30_encoding.md R110, R111). No command has an operand in its word (R114). -/

namespace Sys2Proof

/-- The ten commands (R111). -/
inductive Instr where
  | nop
  | gf16Mul
  | gf256Mul
  | synd16
  | synd256
  | bm16
  | bm256
  | fmtDec
  | rsDec
  | deint
  deriving DecidableEq, Repr

/-- The fields of the one format CMDW (R110). -/
structure CmdFields where
  /-- bits 3:0, the operation -/
  op : BitVec 4
  /-- bit 4, the field select: GF(256) when set -/
  f : Bool
  /-- bits 31:5, reserved -/
  rsv : BitVec 27
  deriving DecidableEq, Repr

end Sys2Proof
end

