-- ==== Sys2Proof/WellFormed.lean ====
section
/-! DEFINITION. Which command fields select a command (30_encoding.md R110, R111, R113). A term of Instr carries no
operand, so nothing can be wrong with one; what can be ill-formed is the word's fields, checked here (log 19). -/

namespace Sys2Proof

/-- "31:5 | RSV | reserved, must be 0" (R110). -/
def CmdFields.rsvZero (c : CmdFields) : Bool := c.rsv == 0

/-- "any word with OP in 8..15" is illegal (R113). -/
def CmdFields.opDefined (c : CmdFields) : Bool := c.op.toNat < 8

/-- "any word with F = 1 and OP not in {3, 4}" is illegal (R113). -/
def CmdFields.fieldAllowed (c : CmdFields) : Bool := !c.f || c.op == 3 || c.op == 4

/-- The three checks together: exactly the words of R111's table. -/
def CmdFields.wellFormed (c : CmdFields) : Bool := c.rsvZero && c.opDefined && c.fieldAllowed

end Sys2Proof
end

