-- ==== Sys2Proof/Decode.lean ====
section
/-! DEFINITION. From a command word to a command and back (30_encoding.md R110, R111, R113; 40_command_lifecycle.md
R144). Decoding compares the whole word with the ten words of R111; encoding lays out the fields of R110. -/

namespace Sys2Proof

/-- Why a word selects no command (R113), in the order R113 lists the reasons. -/
inductive DecodeError where
  /-- RSV is not 0 -/
  | reservedBits
  /-- OP is 8 to 15 -/
  | undefinedOp
  /-- F is 1 for an OP other than 3 and 4 -/
  | fieldNotAllowed
  deriving DecidableEq, Repr

/-- The opcode map of R111: each legal word with its command. -/
def opcodeMap : List (Word × Instr) :=
  [(0x00000000, .nop),
   (0x00000001, .gf16Mul),
   (0x00000002, .gf256Mul),
   (0x00000003, .synd16),
   (0x00000013, .synd256),
   (0x00000004, .bm16),
   (0x00000014, .bm256),
   (0x00000005, .fmtDec),
   (0x00000006, .rsDec),
   (0x00000007, .deint)]

/-- The fields of a word (R110). -/
def CmdFields.ofWord (w : Word) : CmdFields :=
  { op := w.extractLsb' 0 4, f := w.getLsbD 4, rsv := w.extractLsb' 5 27 }

/-- The reason for an illegal word (R113). -/
def CmdFields.reason (c : CmdFields) : DecodeError :=
  if c.rsvZero = false then .reservedBits
  else if c.opDefined = false then .undefinedOp
  else .fieldNotAllowed

/-- R144: the command whose word of R111 equals `w` in all 32 bits, or the reason why there is none. -/
def decode (w : Word) : Except DecodeError Instr :=
  match opcodeMap.lookup w with
  | some i => .ok i
  | none => .error (CmdFields.ofWord w).reason

/-- The OP and F columns of R111, with RSV = 0. -/
def Instr.fields : Instr → CmdFields
  | .nop => ⟨0, false, 0⟩
  | .gf16Mul => ⟨1, false, 0⟩
  | .gf256Mul => ⟨2, false, 0⟩
  | .synd16 => ⟨3, false, 0⟩
  | .synd256 => ⟨3, true, 0⟩
  | .bm16 => ⟨4, false, 0⟩
  | .bm256 => ⟨4, true, 0⟩
  | .fmtDec => ⟨5, false, 0⟩
  | .rsDec => ⟨6, false, 0⟩
  | .deint => ⟨7, false, 0⟩

/-- The word with the given fields (R110): RSV in bits 31:5, F in bit 4, OP in bits 3:0. -/
def CmdFields.toWord (c : CmdFields) : Word := c.rsv ++ BitVec.ofBool c.f ++ c.op

/-- The command word of a command. -/
def encode (i : Instr) : Word := i.fields.toWord

/-- The command word that an opcode-table row of `nbits` bits and value `w` denotes; every table row has 32 bits. -/
def tableWord (nbits w : Nat) : Word := BitVec.ofNat 32 (w % 2 ^ nbits)

/-- What the decoder reads from a table row's word (none where it refuses). -/
def decodeTableWord (nbits w : Nat) : Option Instr :=
  match decode (tableWord nbits w) with
  | .ok i => some i
  | .error _ => none

end Sys2Proof
end

