-- ==== Sys2Proof/Config.lean ====
section
/-! DEFINITION. The free values: what the spec leaves open (93_implementation_defined.md U1 to U4). Each is a constant
with no body, applied to the number of a draw, so that nothing can be proved about its value (log 1). -/

namespace Sys2Proof

/-- DESIGN CHOICE (log 1, log 2). The arbitrary byte a buffer address holds when nothing has been written to it since
the buffer's contents became unspecified: draw number, then window offset (R56, R331, R49, R261; U2, U3, U4). -/
opaque Config.freeByte : Nat → Nat → Byte

/-- DESIGN CHOICE (log 1). The word a host read returns while the engine is busy (R88; U1). -/
opaque Config.freeWord : Nat → Word

/-- DESIGN CHOICE (log 1, log 3). STATUS.NZ after FMT_DEC, RS_DEC or DEINT (R49; U3). -/
opaque Config.freeFlag : Nat → Bool

/-- DESIGN CHOICE (log 1, log 3). BM_L.L after FMT_DEC, RS_DEC or DEINT (R49; U3). -/
opaque Config.freeLength : Nat → BitVec 7

end Sys2Proof
end

