-- ==== Sys2Proof/Machine/State.lean ====
section
/-! DEFINITION. The state of one QRCORE instance (10_state.md R30 to R58), the host's side of its port as plain data
(20_memory.md R80 to R88, 70_reset_and_hazards.md R330), the reasons a step can stop, and the state after reset. -/

namespace Sys2Proof.Machine

/-- The 20 registers of the map (R32). -/
inductive Reg where
  | id | cmd | status | irqEn | irqPend | opa | opb | result | fmtA | fmtB | fmtOut | synN | bmL
  | rsBs | rsDw | rsNs | total | dataBits | blockIdx | deintInfo
  deriving DecidableEq, Repr

/-- The five byte buffers (R55). -/
inductive Buf where
  | s | sigma | blk | raw | data
  deriving DecidableEq, Repr

/-- The completion codes QRCORE produces (60_exceptions.md R300); the others of that table are reserved and "never". -/
inductive ErrCode where
  | success | formatEcc | dataEcc | illegalCmd | badParam
  deriving DecidableEq, Repr

/-- STATUS (R35), its fields; the bits between them are reserved and read as 0 (R32). -/
structure Status where
  /-- bit 0 -/
  busy : Bool
  /-- bit 1 -/
  done : Bool
  /-- bit 2 -/
  err : Bool
  /-- bit 3 -/
  nz : Bool
  /-- bit 4 -/
  werr : Bool
  /-- bits 11:8 -/
  errCode : BitVec 4
  deriving DecidableEq, Repr

/-- FMT_OUT (R45), its fields. -/
structure FmtOut where
  /-- bits 14:0 -/
  word : BitVec 15
  /-- bits 17:16 -/
  eccLevel : BitVec 2
  /-- bits 22:20 -/
  mask : BitVec 3
  /-- bit 24 -/
  loc : Bool
  /-- bit 31 -/
  valid : Bool
  deriving DecidableEq, Repr

/-- DEINT_INFO (R54), its fields. -/
structure DeintInfo where
  /-- bits 13:0, the long block count -/
  lb : BitVec 14
  /-- bits 29:16, the total block count -/
  bc : BitVec 14
  deriving DecidableEq, Repr

/-- The buffers' bytes by window offset: those written since the buffer's contents were last unspecified. Canonical
form: addresses strictly rising, all of them inside a buffer (`Memory.wf`). An unlisted address holds no written
byte; what it reads as is `State.unwritten` (R56, R331; log 2). -/
abbrev Memory := List Host.Cell

/-- The model's own: for each buffer, the number of the draw whose free bytes stand at its unlisted addresses. -/
structure Gens where
  s : Nat
  sigma : Nat
  blk : Nat
  raw : Nat
  data : Nat
  deriving DecidableEq, Repr

/-- The width of a host access (R84, R85). -/
inductive Width where
  | w8 | w16 | w32
  deriving DecidableEq, Repr

/-- A host bus access (R84, R85): offsets are from the instance's base (R82); a write names its byte lanes. -/
inductive Access where
  | read (width : Width) (off : BitVec 16)
  | write (width : Width) (lanes : BitVec 4) (off : BitVec 16) (value : Word)
  deriving DecidableEq, Repr

/-- The port's response to one access (R83 to R85, R304). -/
inductive Answer where
  /-- a legal read and its data -/
  | data (value : Word)
  /-- a legal write, completed normally (also one that was dropped, R304) -/
  | written
  /-- a bus error; a read so answered returns 0 -/
  | busError
  deriving DecidableEq, Repr

/-- What reaches QRCORE from outside: a bus access, or the level of the reset input (R330). -/
inductive Event where
  | access (a : Access)
  | resetLine (asserted : Bool)
  deriving DecidableEq, Repr

/-- One input and where it lands: when `afterCompletion` is set, a command in flight completes first (log 5). -/
structure Input where
  afterCompletion : Bool
  event : Event
  deriving DecidableEq, Repr

/-- The state of one instance (R30). ID and the field tables are constants (R33, R57; log 11). -/
structure State where
  /-- CMD (R34) -/
  cmd : Word
  /-- STATUS (R35); `status.busy` with `cmd` is the in-flight command (R47) -/
  status : Status
  /-- IRQ_EN.DONE_EN (R36) -/
  irqEn : Bool
  /-- IRQ_PEND.DONE (R37) -/
  irqPend : Bool
  /-- OPA.VALUE (R38) -/
  opa : Byte
  /-- OPB.VALUE (R38) -/
  opb : Byte
  /-- RESULT.VALUE (R39) -/
  result : Byte
  /-- FMT_A.RAW (R40) -/
  fmtA : BitVec 15
  /-- FMT_B.RAW (R40) -/
  fmtB : BitVec 15
  /-- FMT_OUT (R45) -/
  fmtOut : FmtOut
  /-- SYN_N.N (R46) -/
  synN : BitVec 7
  /-- BM_L.L (R46) -/
  bmL : BitVec 7
  /-- RS_BS.VALUE (R50) -/
  rsBs : Byte
  /-- RS_DW.VALUE (R50) -/
  rsDw : Byte
  /-- RS_NS.VALUE (R50) -/
  rsNs : Byte
  /-- TOTAL.VALUE (R51) -/
  total : BitVec 14
  /-- DATA_BITS.VALUE (R52) -/
  dataBits : BitVec 17
  /-- BLOCK_IDX.VALUE (R53) -/
  blockIdx : BitVec 14
  /-- DEINT_INFO (R54) -/
  deintInfo : DeintInfo
  /-- the buffers S, SIGMA, BLK, RAW, DATA (R55) -/
  mem : Memory
  /-- the level of the reset input (R330) -/
  resetLine : Bool
  /-- the model's own: which free bytes stand at unlisted addresses (log 2) -/
  gens : Gens
  /-- the model's own: the number of the next free draw (log 1) -/
  draws : Nat
  /-- the model's own: what the host does next, oldest first (log 5) -/
  inputs : List Input
  /-- the model's own: what the port has answered, newest first (log 9) -/
  answers : List Answer
  deriving DecidableEq, Repr

/-- Why a run stops. QRCORE itself has no trap and no stop (60_exceptions.md R303, R311). -/
inductive Fault where
  /-- Raised by a host access that arrives while the reset input is asserted. Safe: the spec gives it no effect,
  "Host accesses while reset is asserted are outside this spec" (R330; U14; log 7). -/
  | accessDuringReset
  deriving DecidableEq, Repr

/-- Why a command has no meaning in the model. -/
inductive Refusal where
  /-- Raised by an arm of exec whose command is not modelled. Safe: nothing is claimed of it. No arm raises it. -/
  | notModelled (mnemonic : String)
  deriving DecidableEq, Repr

/-- The state right after reset (R58, R330): every register 0, the engine idle, no buffer byte written. The last
five fields are the reset input, no longer asserted, and the model's own (log 7, log 8). -/
def State.reset : State :=
  { cmd := 0
    status := { busy := false, done := false, err := false, nz := false, werr := false, errCode := 0 }
    irqEn := false
    irqPend := false
    opa := 0
    opb := 0
    result := 0
    fmtA := 0
    fmtB := 0
    fmtOut := { word := 0, eccLevel := 0, mask := 0, loc := false, valid := false }
    synN := 0
    bmL := 0
    rsBs := 0
    rsDw := 0
    rsNs := 0
    total := 0
    dataBits := 0
    blockIdx := 0
    deintInfo := { lb := 0, bc := 0 }
    mem := []
    resetLine := false
    gens := { s := 0, sigma := 0, blk := 0, raw := 0, data := 0 }
    draws := 1
    inputs := []
    answers := [] }

end Sys2Proof.Machine
end

