-- ==== Sys2Proof/Machine/Flags.lean ====
section
/-! DEFINITION. The status register: its fields as a word and every way they change (10_state.md R35,
40_command_lifecycle.md R141 to R143, 60_exceptions.md R300). -/

namespace Sys2Proof.Machine

/-- The value of a completion code in STATUS.ERRCODE (R300). -/
def ErrCode.code : ErrCode → BitVec 4
  | .success => 0
  | .formatEcc => 3
  | .dataEcc => 4
  | .illegalCmd => 8
  | .badParam => 9

/-- STATUS as the host reads it (R35): reserved bits 31:12 and 7:5 are 0. -/
def Status.toWord (t : Status) : Word :=
  0#20 ++ t.errCode ++ 0#3 ++ BitVec.ofBool t.werr ++ BitVec.ofBool t.nz ++ BitVec.ofBool t.err
    ++ BitVec.ofBool t.done ++ BitVec.ofBool t.busy

/-- R141: a launch clears DONE, ERR and ERRCODE and sets BUSY; NZ and WERR keep their values. -/
def Status.launch (t : Status) : Status :=
  { t with done := false, err := false, errCode := 0, busy := true }

/-- R143: a completion writes ERRCODE, sets ERR iff the code is not 0, clears BUSY and sets DONE. -/
def Status.complete (t : Status) (code : ErrCode) : Status :=
  { t with errCode := code.code, err := code.code != 0, busy := false, done := true }

/-- R180, R182: NZ is 1 iff some computed syndrome is nonzero. -/
def Status.setNz (t : Status) (nz : Bool) : Status := { t with nz := nz }

/-- R142: a write dropped while busy sets WERR. -/
def Status.dropWrite (t : Status) : Status := { t with werr := true }

/-- R35: a host write to STATUS clears WERR when bit 4 of the written word is 1, and does nothing else. -/
def Status.hostWrite (t : Status) (v : Word) : Status := { t with werr := t.werr && !v.getLsbD 4 }

/-- R37: a host write to IRQ_PEND clears DONE when bit 0 of the written word is 1. -/
def irqPendHostWrite (pend : Bool) (v : Word) : Bool := pend && !v.getLsbD 0

end Sys2Proof.Machine
end

