-- ==== Sys2Proof/Machine/Ops.lean ====
section
/-! DEFINITION. The named operations over the buffers and registers, and the events of a command's life: launch
(40_command_lifecycle.md R141), completion (R143), `raise` (R145, a returned code), unspecified results
(10_state.md R49) and reset (70_reset_and_hazards.md R330). An error is a completion code: QRCORE has no trap to take
and none to return from (60_exceptions.md R303, R311, R312). -/

namespace Sys2Proof.Machine

/-! The buffers' places in the window (20_memory.md R81, 10_state.md R55). -/

/-- The offset of a buffer's first byte (R81). -/
def Buf.base : Buf → Nat
  | .s => 0x0100
  | .sigma => 0x0140
  | .blk => 0x0200
  | .raw => 0x4000
  | .data => 0x8000

/-- A buffer's number of bytes (R55): MAX_POLY 64, BLK_BYTES 256, BUF_BYTES 8896 (00_scope.md R8). -/
def Buf.size : Buf → Nat
  | .s => 64
  | .sigma => 64
  | .blk => 256
  | .raw => 8896
  | .data => 8896

/-- Whether a window offset lies in the buffer. -/
def Buf.holds (b : Buf) (a : Nat) : Bool := b.base ≤ a && a < b.base + b.size

/-- The five buffers. -/
def Buf.all : List Buf := [.s, .sigma, .blk, .raw, .data]

/-- The buffer a window offset lies in, if any (R81). -/
def bufferAt (a : Nat) : Option Buf := Buf.all.find? (·.holds a)

/-! Memory: a list of (offset, byte) cells. -/

/-- The byte written at an address, if one is listed. -/
def Memory.get? : Memory → Nat → Option Byte
  | [], _ => none
  | c :: m, a => if c.1 = a then some c.2 else Memory.get? m a

/-- The canonical form: addresses strictly rising, every one inside a buffer. An unlisted address has no written
byte, so no entry can equal what it holds (log 2). -/
abbrev Memory.wf (m : Memory) : Prop :=
  m.Pairwise (fun c d => c.1 < d.1) ∧ ∀ c ∈ m, (bufferAt c.1).isSome = true

/-- The cells of consecutive bytes from an address on. -/
def cellsFrom : Nat → List Byte → Memory
  | _, [] => []
  | a, v :: vs => (a, v) :: cellsFrom (a + 1) vs

/-- Write consecutive bytes from an address on. -/
def Memory.writeRange (m : Memory) (a : Nat) (vs : List Byte) : Memory :=
  m.filter (fun c => c.1 < a) ++ cellsFrom a vs ++ m.filter (fun c => a + vs.length ≤ c.1)

/-- Forget what was written at `n` addresses from `a` on. -/
def Memory.eraseRange (m : Memory) (a n : Nat) : Memory :=
  m.filter (fun c => c.1 < a || a + n ≤ c.1)

/-! Buffer bytes of a state. -/

/-- Which draw's free bytes stand at a buffer's unlisted addresses. -/
def Gens.of (g : Gens) : Buf → Nat
  | .s => g.s
  | .sigma => g.sigma
  | .blk => g.blk
  | .raw => g.raw
  | .data => g.data

/-- The same, with one buffer's draw replaced. -/
def Gens.set (g : Gens) (b : Buf) (n : Nat) : Gens :=
  match b with
  | .s => { g with s := n }
  | .sigma => { g with sigma := n }
  | .blk => { g with blk := n }
  | .raw => { g with raw := n }
  | .data => { g with data := n }

/-- What an address that nothing has written reads as: "an arbitrary byte, fixed until written" (R331). -/
def State.unwritten (s : State) (a : Nat) : Byte :=
  match bufferAt a with
  | some b => Config.freeByte (s.gens.of b) a
  | none => 0

/-- The byte at a window offset. -/
def State.byteAt (s : State) (a : Nat) : Byte := (s.mem.get? a).getD (s.unwritten a)

/-- `BUF[i]` (00_scope.md R12). -/
def State.buf (s : State) (b : Buf) (i : Nat) : Byte := s.byteAt (b.base + i)

/-- `BUF[0..n)`. -/
def State.bufPrefix (s : State) (b : Buf) (n : Nat) : List Byte := (List.range n).map (s.buf b)

/-- `BUF[0..length) <- bytes`. -/
def State.writeBuf (s : State) (b : Buf) (bytes : List Byte) : State :=
  { s with mem := s.mem.writeRange b.base bytes }

/-- All bytes of one buffer become unspecified: a fresh draw, and nothing listed (log 1, log 2). -/
def State.unspecifyBuf (s : State) (b : Buf) : State :=
  { s with
    mem := s.mem.eraseRange b.base b.size
    gens := s.gens.set b s.draws
    draws := s.draws + 1 }

/-- R49: after FMT_DEC, RS_DEC and DEINT "the contents of S and SIGMA, the field BM_L.L and the flag STATUS.NZ are
unspecified" (log 3). -/
def State.unspecifyIntermediates (s : State) : State :=
  { (s.unspecifyBuf .s).unspecifyBuf .sigma with
    bmL := Config.freeLength s.draws
    status := s.status.setNz (Config.freeFlag s.draws) }

/-! The life of a command. -/

/-- R141: the launch by an accepted write of `w` to CMD. -/
def State.launch (s : State) (w : Word) : State :=
  { s with cmd := w, status := s.status.launch }

/-- R143: the report of a completion with a code. -/
def State.complete (s : State) (code : ErrCode) : State :=
  { s with status := s.status.complete code, irqPend := true }

/-- R143: the completion step of a command whose `Execute` returned `r.1` and left the state `r.2`. A command that
raises `E` (R145) returns `E` with the state as it is at that point. -/
def State.finish (r : ErrCode × State) : Host.Outcome State Fault Refusal := .next (r.2.complete r.1)

/-- R310: the interrupt output. -/
def State.irq (s : State) : Bool := s.irqPend && s.irqEn

/-- R58, R330: the state while the reset input is asserted and at its deassertion. Registers take their reset values,
a command in flight is discarded, and every buffer byte becomes unspecified afresh (R331); what the host does next
and what it was answered are not QRCORE's to reset (log 7). -/
def State.resetTo (s : State) (asserted : Bool) : State :=
  { State.reset with
    resetLine := asserted
    gens := { s := s.draws, sigma := s.draws, blk := s.draws, raw := s.draws, data := s.draws }
    draws := s.draws + 1
    inputs := s.inputs
    answers := s.answers }

end Sys2Proof.Machine
end

