-- ==== Sys2Proof/Machine/Operands.lean ====
section
/-! DEFINITION. The operands of the commands (30_encoding.md R114): register fields zero-extended to naturals
(00_scope.md R10), buffer bytes, and the byte and bit orders of the data (20_memory.md R86, R90, R91, R92). -/

namespace Sys2Proof.Machine

/-- RS_BS as a number, `bs` (R50). -/
def State.bs (s : State) : Nat := s.rsBs.toNat

/-- RS_DW as a number, `dw` (R50). -/
def State.dw (s : State) : Nat := s.rsDw.toNat

/-- RS_NS as a number, `ns` (R50). -/
def State.ns (s : State) : Nat := s.rsNs.toNat

/-- TOTAL as a number (R51). -/
def State.totalWords (s : State) : Nat := s.total.toNat

/-- SYN_N as a number, `N` (R46). -/
def State.synCount (s : State) : Nat := s.synN.toNat

/-- `npar = bs - dw`, the parity count of a block (00_scope.md R14). -/
def parityCount (bs dw : Nat) : Nat := bs - dw

/-- The coefficient of `x^j` in the polynomial of a block of `bs` bytes (R91): the last byte is the constant term. -/
def blockCoeff (blk : List Byte) (bs j : Nat) : Byte := blk.getD (bs - j - 1) 0

/-- The little-endian word at a window offset (R86). -/
def State.wordAt (s : State) (a : Nat) : Word :=
  s.byteAt (a + 3) ++ s.byteAt (a + 2) ++ s.byteAt (a + 1) ++ s.byteAt a

/-- The four bytes of a word in ascending address order (R86). -/
def wordBytes (v : Word) : List Byte :=
  [v.extractLsb' 0 8, v.extractLsb' 8 8, v.extractLsb' 16 8, v.extractLsb' 24 8]

/-- Bit `p` of the stream in DATA, packed MSB-first (R90, R265). -/
def State.dataStreamBit (s : State) (p : Nat) : Bool := (s.buf .data (p / 8)).getLsbD (7 - p % 8)

end Sys2Proof.Machine
end

