-- ==== Sys2Proof/Machine/Bus.lean ====
section
/-! DEFINITION. The host port: the register map (10_state.md R32 to R54), the address map (20_memory.md R81), legal
accesses and bus errors (R83 to R86), reads and writes while busy (R88, 40_command_lifecycle.md R142), and the inputs
that reach QRCORE from outside (70_reset_and_hazards.md R330). -/

namespace Sys2Proof.Machine

/-! The register map. -/

/-- ID's constant, "QRC1" (R33). -/
def idValue : Word := 0x51524331

/-- The registers in the order of the map, one per word from offset 0 (R32). -/
def registers : List Reg :=
  [.id, .cmd, .status, .irqEn, .irqPend, .opa, .opb, .result, .fmtA, .fmtB,
   .fmtOut, .synN, .bmL, .rsBs, .rsDw, .rsNs, .total, .dataBits, .blockIdx, .deintInfo]

/-- A register's offset (R32). -/
def Reg.offset : Reg → Nat
  | .id => 0x000
  | .cmd => 0x004
  | .status => 0x008
  | .irqEn => 0x00C
  | .irqPend => 0x010
  | .opa => 0x014
  | .opb => 0x018
  | .result => 0x01C
  | .fmtA => 0x020
  | .fmtB => 0x024
  | .fmtOut => 0x028
  | .synN => 0x02C
  | .bmL => 0x030
  | .rsBs => 0x034
  | .rsDw => 0x038
  | .rsNs => 0x03C
  | .total => 0x040
  | .dataBits => 0x044
  | .blockIdx => 0x048
  | .deintInfo => 0x04C

/-- FMT_OUT as the host reads it (R45): VALID 31, LOC 24, MASK 22:20, ECC_LEVEL 17:16, WORD 14:0. -/
def FmtOut.toWord (f : FmtOut) : Word :=
  BitVec.ofBool f.valid ++ 0#6 ++ BitVec.ofBool f.loc ++ 0#1 ++ f.mask ++ 0#2 ++ f.eccLevel ++ 0#1 ++ f.word

/-- DEINT_INFO as the host reads it (R54): BC 29:16, LB 13:0. -/
def DeintInfo.toWord (d : DeintInfo) : Word := 0#2 ++ d.bc ++ 0#2 ++ d.lb

/-- A register's current value; reserved bits read as 0 (R32). -/
def State.readReg (s : State) : Reg → Word
  | .id => idValue
  | .cmd => s.cmd
  | .status => s.status.toWord
  | .irqEn => (BitVec.ofBool s.irqEn).setWidth 32
  | .irqPend => (BitVec.ofBool s.irqPend).setWidth 32
  | .opa => s.opa.setWidth 32
  | .opb => s.opb.setWidth 32
  | .result => s.result.setWidth 32
  | .fmtA => s.fmtA.setWidth 32
  | .fmtB => s.fmtB.setWidth 32
  | .fmtOut => s.fmtOut.toWord
  | .synN => s.synN.setWidth 32
  | .bmL => s.bmL.setWidth 32
  | .rsBs => s.rsBs.setWidth 32
  | .rsDw => s.rsDw.setWidth 32
  | .rsNs => s.rsNs.setWidth 32
  | .total => s.total.setWidth 32
  | .dataBits => s.dataBits.setWidth 32
  | .blockIdx => s.blockIdx.setWidth 32
  | .deintInfo => s.deintInfo.toWord

/-- The effect of a host write that the engine lets act, by the register's access kind (R32): read-only registers
ignore it, W1C bits clear, read-write fields take the low bits, and CMD launches (R141). -/
def State.writeReg (s : State) (r : Reg) (v : Word) : State :=
  match r with
  | .id => s
  | .cmd => s.launch v
  | .status => { s with status := s.status.hostWrite v }
  | .irqEn => { s with irqEn := v.getLsbD 0 }
  | .irqPend => { s with irqPend := irqPendHostWrite s.irqPend v }
  | .opa => { s with opa := v.setWidth 8 }
  | .opb => { s with opb := v.setWidth 8 }
  | .result => s
  | .fmtA => { s with fmtA := v.setWidth 15 }
  | .fmtB => { s with fmtB := v.setWidth 15 }
  | .fmtOut => s
  | .synN => { s with synN := v.setWidth 7 }
  | .bmL => s
  | .rsBs => { s with rsBs := v.setWidth 8 }
  | .rsDw => { s with rsDw := v.setWidth 8 }
  | .rsNs => { s with rsNs := v.setWidth 8 }
  | .total => { s with total := v.setWidth 14 }
  | .dataBits => s
  | .blockIdx => s
  | .deintInfo => s

/-- R88: the registers a read returns exactly while the engine is busy. -/
def Reg.exactWhileBusy : Reg → Bool
  | .id | .cmd | .status | .irqEn | .irqPend => true
  | _ => false

/-- R142: the registers a write acts on while the engine is busy. -/
def Reg.writableWhileBusy : Reg → Bool
  | .status | .irqEn | .irqPend => true
  | _ => false

/-! The address map. -/

/-- What a window offset reaches (R81): a register, or the buffer byte at that offset. -/
inductive Target where
  | reg (r : Reg)
  | bytes (a : Nat)
  deriving DecidableEq, Repr

/-- What an aligned offset reaches; `none` is unmapped (R81). -/
def targetAt (a : Nat) : Option Target :=
  if a < 0x50 then (registers[a / 4]?).map .reg
  else if (bufferAt a).isSome then some (.bytes a)
  else none

/-- R84: what a read reaches, if the port accepts it: 32 bits wide, at a multiple of 4, mapped. -/
def readTarget (width : Width) (off : BitVec 16) : Option Target :=
  if width = .w32 ∧ off.toNat % 4 = 0 then targetAt off.toNat else none

/-- R85: what a write reaches, if the port accepts it: as R84, with all four byte lanes. -/
def writeTarget (width : Width) (lanes : BitVec 4) (off : BitVec 16) : Option Target :=
  if lanes = 0xF then readTarget width off else none

/-- The current value at a target (R84, R86). -/
def State.readAt (s : State) : Target → Word
  | .reg r => s.readReg r
  | .bytes a => s.wordAt a

/-- The effect of an accepted write at a target (R85, R86). -/
def State.writeAt (s : State) (t : Target) (v : Word) : State :=
  match t with
  | .reg r => s.writeReg r v
  | .bytes a => { s with mem := s.mem.writeRange a (wordBytes v) }

/-- R88: whether a read of the target is exact while busy; no buffer's is. -/
def Target.exactWhileBusy : Target → Bool
  | .reg r => r.exactWhileBusy
  | .bytes _ => false

/-- R142: whether a write of the target acts while busy; no buffer's does. -/
def Target.writableWhileBusy : Target → Bool
  | .reg r => r.writableWhileBusy
  | .bytes _ => false

/-! Accesses. -/

/-- A host read (R83, R84, R88): the answer and the state after it. Only a read whose value is unspecified changes
anything, and that is the model's own count of draws (log 1). -/
def State.busRead (s : State) (width : Width) (off : BitVec 16) : Answer × State :=
  match readTarget width off with
  | none => (.busError, s)
  | some t =>
    if s.status.busy = true ∧ t.exactWhileBusy = false then
      (.data (Config.freeWord s.draws), { s with draws := s.draws + 1 })
    else (.data (s.readAt t), s)

/-- A host write (R83, R85, R142): the answer and the state after it. -/
def State.busWrite (s : State) (width : Width) (lanes : BitVec 4) (off : BitVec 16) (v : Word) : Answer × State :=
  match writeTarget width lanes off with
  | none => (.busError, s)
  | some t =>
    if s.status.busy = true ∧ t.writableWhileBusy = false then
      (.written, { s with status := s.status.dropWrite })
    else (.written, s.writeAt t v)

/-- One access and its answer. -/
def State.access (s : State) : Access → Answer × State
  | .read width off => s.busRead width off
  | .write width lanes off v => s.busWrite width lanes off v

/-- The data the host receives with an answer: a bus error returns 0 (R83, R84). -/
def Answer.value : Answer → Word
  | .data v => v
  | .written => 0
  | .busError => 0

/-- Record an answer. -/
def State.answer (r : Answer × State) : State := { r.2 with answers := r.1 :: r.2.answers }

/-- R330: the level of the reset input. Asserting it, and deasserting it when it is asserted, leaves the reset
values; deasserting it when it is not asserted is no event. -/
def State.setResetLine (s : State) (asserted : Bool) : State :=
  if asserted = true ∨ s.resetLine = true then s.resetTo asserted else s

/-- One input from outside. A host access while the reset input is asserted is outside the spec (R330; U14; log 7). -/
def hostEvent (e : Event) (s : State) : Host.Outcome State Fault Refusal :=
  match e with
  | .access a =>
    if s.resetLine = true then .fault .accessDuringReset else .next (State.answer (s.access a))
  | .resetLine asserted => .next (s.setResetLine asserted)

end Sys2Proof.Machine
end

