-- ==== Sys2Proof/Machine/Galois.lean ====
section
/-! DEFINITION. Galois-field arithmetic (41_gf_arith.md): the two fields, their products, the polynomial primitives the
units share, and the commands GF16_MUL and GF256_MUL. Addition is bitwise XOR. -/

namespace Sys2Proof.Machine

/-- A field as the rules use one: its order and its two tables (R160). -/
structure Gf where
  order : Nat
  exp : Nat → Byte
  log : Byte → Nat

/-- GF(16): order 15 (R160; R8 ORDER16). -/
def gf16 : Gf := { order := 15, exp := exp16, log := log16 }

/-- GF(256): order 255 (R160; R8 ORDER256; 90_conflicts.md C1). -/
def gf256 : Gf := { order := 255, exp := exp256, log := log256 }

/-- The product of two nonzero elements through the tables: `EXP[(LOG[a] + LOG[b]) mod order]` (R161, R162). -/
def Gf.mulNonzero (gf : Gf) (a b : Byte) : Byte := gf.exp ((gf.log a + gf.log b) % gf.order)

/-- Field multiplication (R161, R162). -/
def Gf.mul (gf : Gf) (a b : Byte) : Byte := if a = 0 ∨ b = 0 then 0 else gf.mulNonzero a b

/-- A polynomial: its 64 coefficients, the one of `x^i` at index `i` (00_scope.md R8 MAX_POLY, R11). -/
abbrev Poly := List Byte

/-- The polynomial with the given coefficients, 64 of them. -/
def Poly.tabulate (f : Nat → Byte) : Poly := (List.range 64).map f

/-- The coefficient of `x^i`. -/
def Poly.coeff (p : Poly) (i : Nat) : Byte := p.getD i 0

/-- The polynomial 1. -/
def Poly.one : Poly := Poly.tabulate fun i => if i = 0 then 1 else 0

/-- R165: add `c * x^shift * src(x)` into `dst`, dropping every term of degree 64 or more. Written per coefficient
(log 16); every shift the rules use is a natural number (log 14). -/
def polyAdd (gf : Gf) (dst src : Poly) (c : Byte) (shift : Nat) : Poly :=
  if c = 0 then dst
  else Poly.tabulate fun p =>
    if p < shift ∨ src.coeff (p - shift) = 0 then dst.coeff p
    else dst.coeff p ^^^ gf.mulNonzero (src.coeff (p - shift)) c

/-- R166: the value of a polynomial at a field element. -/
def polyEval (gf : Gf) (P : Poly) (x : Byte) : Byte :=
  if x = 0 then P.coeff 0
  else (List.range 64).foldl
    (fun acc i =>
      if P.coeff i = 0 then acc
      else acc ^^^ gf.exp ((gf.log (P.coeff i) + gf.log x * i) % gf.order))
    0

/-- R167: the effect of GF16_MUL. -/
def gf16MulEffect (s : State) : ErrCode × State :=
  if 15 < s.opa.toNat ∨ 15 < s.opb.toNat then (.badParam, s)
  else (.success, { s with result := gf16.mul s.opa s.opb })

/-- GF16_MUL (R167). -/
def execGf16Mul (s : State) : Host.Outcome State Fault Refusal := State.finish (gf16MulEffect s)

/-- R168: the effect of GF256_MUL. -/
def gf256MulEffect (s : State) : ErrCode × State :=
  (.success, { s with result := gf256.mul s.opa s.opb })

/-- GF256_MUL (R168). -/
def execGf256Mul (s : State) : Host.Outcome State Fault Refusal := State.finish (gf256MulEffect s)

end Sys2Proof.Machine
end

