-- ==== Sys2Proof/Machine/BerlekampMassey.lean ====
section
/-! DEFINITION. The Berlekamp–Massey solver (43_berlekamp_massey.md R201) and the commands BM16 and BM256. -/

namespace Sys2Proof.Machine

/-- The solver's scratch variables (R201): the locator `C`, the previous locator `B`, the length `L`, the distance
`m` since the last length change and the discrepancy `b` of that change. -/
structure BmState where
  C : Poly
  B : Poly
  L : Nat
  m : Nat
  b : Byte
  deriving DecidableEq, Repr

/-- R201: the discrepancy of iteration `n`. -/
def bmDiscrepancy (gf : Gf) (syn : Poly) (C : Poly) (L n : Nat) : Byte :=
  (List.range L).foldl
    (fun d k =>
      if C.coeff (k + 1) ≠ 0 ∧ syn.coeff (n - (k + 1)) ≠ 0 then
        d ^^^ gf.mulNonzero (C.coeff (k + 1)) (syn.coeff (n - (k + 1)))
      else d)
    (syn.coeff n)

/-- R201: the scale factor `d / b`. -/
def bmScale (gf : Gf) (b d : Byte) : Byte := gf.exp ((gf.order - gf.log b + gf.log d) % gf.order)

/-- R201: one iteration. -/
def bmStep (gf : Gf) (syn : Poly) (t : BmState) (n : Nat) : BmState :=
  let d := bmDiscrepancy gf syn t.C t.L n
  if d = 0 then { t with m := t.m + 1 }
  else if 2 * t.L ≤ n then
    { C := polyAdd gf t.C t.B (bmScale gf t.b d) t.m, B := t.C, L := n + 1 - t.L, m := 1, b := d }
  else
    { t with C := polyAdd gf t.C t.B (bmScale gf t.b d) t.m, m := t.m + 1 }

/-- R201: the scratch variables before the first iteration. -/
def bmInit : BmState := { C := Poly.one, B := Poly.one, L := 0, m := 1, b := 1 }

/-- R201: `bm(s, N, gf)`; `C` of the result is `sigma`. -/
def bm (gf : Gf) (syn : Poly) (N : Nat) : BmState := (List.range N).foldl (bmStep gf syn) bmInit

/-- R200, R202: write the locator to SIGMA and its length to BM_L. -/
def State.storeLocator (s : State) (r : BmState) : State :=
  { s.writeBuf .sigma r.C with bmL := BitVec.ofNat 7 r.L }

/-- R200: some syndrome that would be read is not an element of GF(16). -/
def outsideGf16 (syn : Poly) : Bool := syn.any fun a => 15 < a.toNat

/-- R200: the effect of BM16. -/
def bm16Effect (s : State) : ErrCode × State :=
  if 64 < s.synCount then (.badParam, s)
  else if outsideGf16 (s.bufPrefix .s s.synCount) = true then (.badParam, s)
  else (.success, s.storeLocator (bm gf16 (s.bufPrefix .s s.synCount) s.synCount))

/-- BM16 (R200). -/
def execBm16 (s : State) : Host.Outcome State Fault Refusal := State.finish (bm16Effect s)

/-- R202: the effect of BM256. -/
def bm256Effect (s : State) : ErrCode × State :=
  if 64 < s.synCount then (.badParam, s)
  else (.success, s.storeLocator (bm gf256 (s.bufPrefix .s s.synCount) s.synCount))

/-- BM256 (R202). -/
def execBm256 (s : State) : Host.Outcome State Fault Refusal := State.finish (bm256Effect s)

end Sys2Proof.Machine
end

