-- ==== Sys2Proof/Machine/Syndrome.lean ====
section
/-! DEFINITION. The syndrome calculator (42_syndrome.md): format syndromes over GF(16), block syndromes over GF(256), and
the commands SYND16 and SYND256. -/

namespace Sys2Proof.Machine

/-- `nz`: some syndrome is nonzero (R181, R183). -/
def anyNonzero (s : Poly) : Bool := s.any (· != 0)

/-- R181: syndrome `i` of a 15-bit word, `U(alpha^(i+1))`. -/
def fmtSyndrome (u : BitVec 15) (i : Nat) : Byte :=
  (List.range 15).foldl
    (fun acc j => if u.getLsbD j then acc ^^^ exp16 (((i + 1) * j) % 15) else acc)
    0

/-- R181: `fmt_syndromes(u)`, six syndromes and zeros above them. -/
def fmtSyndromes (u : BitVec 15) : Poly :=
  Poly.tabulate fun i => if i < 6 then fmtSyndrome u i else 0

/-- R183: syndrome `i` of a block of `bs` bytes, `R(alpha^i)`. -/
def blkSyndrome (blk : List Byte) (bs i : Nat) : Byte :=
  (List.range bs).foldl
    (fun acc j =>
      if blockCoeff blk bs j = 0 then acc
      else acc ^^^ exp256 ((log256 (blockCoeff blk bs j) + i * j) % 255))
    0

/-- R183: `blk_syndromes(blk, bs, npar)`, `npar` syndromes and zeros above them. -/
def blkSyndromes (blk : List Byte) (bs npar : Nat) : Poly :=
  Poly.tabulate fun i => if i < npar then blkSyndrome blk bs i else 0

/-- R182, R240: whether a block size and data count are admitted: `1 <= bs`, `dw <= bs`, `bs - dw <= 64`. -/
def blockAdmitted (bs dw : Nat) : Bool := bs ≠ 0 && dw ≤ bs && bs - dw ≤ 64

/-- R180, R182: write the syndromes to S and the flag to STATUS.NZ. -/
def State.storeSyndromes (s : State) (syn : Poly) : State :=
  { s.writeBuf .s syn with status := s.status.setNz (anyNonzero syn) }

/-- R180: the effect of SYND16. -/
def synd16Effect (s : State) : ErrCode × State :=
  (.success, s.storeSyndromes (fmtSyndromes s.fmtA))

/-- SYND16 (R180). -/
def execSynd16 (s : State) : Host.Outcome State Fault Refusal := State.finish (synd16Effect s)

/-- R182: the effect of SYND256. -/
def synd256Effect (s : State) : ErrCode × State :=
  if blockAdmitted s.bs s.dw = false then (.badParam, s)
  else (.success,
    s.storeSyndromes (blkSyndromes (s.bufPrefix .blk s.bs) s.bs (parityCount s.bs s.dw)))

/-- SYND256 (R182). -/
def execSynd256 (s : State) : Host.Outcome State Fault Refusal := State.finish (synd256Effect s)

end Sys2Proof.Machine
end

