-- ==== Sys2Proof/Machine/ReedSolomon.lean ====
section
/-! DEFINITION. The Reed–Solomon block corrector (45_reed_solomon.md R242 to R246) and the command RS_DEC (R241). -/

namespace Sys2Proof.Machine

/-- R242: the formal derivative of the locator. -/
def locatorDerivative (sigma : Poly) : Poly :=
  Poly.tabulate fun i => if i % 2 = 0 then sigma.coeff (i + 1) else 0

/-- R243: the error evaluator `eloc_poly(s, sigma, P)`: coefficient `k < P` is the sum over `i + j = k` of
`sigma[i] * s[j + 1]`. -/
def errorEvaluator (syn sigma : Poly) (P : Nat) : Poly :=
  Poly.tabulate fun k =>
    if k < P then
      (List.range (k + 1)).foldl
        (fun acc i =>
          if sigma.coeff i = 0 ∨ syn.coeff (k - i + 1) = 0 then acc
          else acc ^^^ gf256.mulNonzero (sigma.coeff i) (syn.coeff (k - i + 1)))
        0
    else 0

/-- R245: Forney's magnitude from the derivative's and the evaluator's values, also when one of them is 0. -/
def forneyMagnitude (sdx omegax : Byte) : Byte := exp256 ((255 - log256 sdx + log256 omegax) % 255)

/-- R244, R245: what candidate `i` adds to its byte: 0 when it is no error position. -/
def errorAt (sigma sigmaDeriv omega : Poly) (i : Nat) : Byte :=
  let xinv := exp256 (255 - i)
  if polyEval gf256 sigma xinv = 0 then
    forneyMagnitude (polyEval gf256 sigmaDeriv xinv) (polyEval gf256 omega xinv)
  else 0

/-- R244 to R246: the block with every flagged byte changed; candidate `i` stands for byte `bs - 1 - i`, so byte `p`
is changed by candidate `bs - 1 - p` (log 16). -/
def applyErrors (blk : List Byte) (bs : Nat) (sigma sigmaDeriv omega : Poly) : List Byte :=
  (List.range bs).map fun p => blk.getD p 0 ^^^ errorAt sigma sigmaDeriv omega (bs - 1 - p)

/-- R246: `correct_block(blk, bs, dw)`, the block afterwards and `ok`. -/
def correctBlock (blk : List Byte) (bs dw : Nat) : List Byte × Bool :=
  let npar := parityCount bs dw
  let syn := blkSyndromes blk bs npar
  if anyNonzero syn = false then (blk, true)
  else
    let sigma := (bm gf256 syn npar).C
    let fixed := applyErrors blk bs sigma (locatorDerivative sigma) (errorEvaluator syn sigma (npar - 1))
    (fixed, !anyNonzero (blkSyndromes fixed bs npar))

/-- R241: the effect of RS_DEC, in place on BLK, with the intermediates unspecified afterwards (R49). -/
def rsDecEffect (s : State) : ErrCode × State :=
  if blockAdmitted s.bs s.dw = false then (.badParam, s)
  else
    let r := correctBlock (s.bufPrefix .blk s.bs) s.bs s.dw
    (if r.2 = true then .success else .dataEcc, (s.writeBuf .blk r.1).unspecifyIntermediates)

/-- RS_DEC (R241). -/
def execRsDec (s : State) : Host.Outcome State Fault Refusal := State.finish (rsDecEffect s)

end Sys2Proof.Machine
end

