-- ==== Sys2Proof/Machine/Deinterleave.lean ====
section
/-! DEFINITION. The codeword de-interleaver (46_deinterleave.md R260 to R264) and the command DEINT (R261). -/

namespace Sys2Proof.Machine

/-- R262: `lb`, the long block count. -/
def longBlocks (total bs ns : Nat) : Nat := (total - bs * ns) / (bs + 1)

/-- R260: whether DEINT's operands are admitted. -/
def deintAdmitted (total bs dw ns : Nat) : Bool :=
  total ≤ 8896 && bs ≠ 0 && dw < bs && bs - dw ≤ 64 && bs * ns ≤ total
    && !(0 < longBlocks total bs ns && bs == 255)

/-- R262: `bc`, the total block count. -/
def blockCount (total bs ns : Nat) : Nat := longBlocks total bs ns + ns

/-- R262: `eo`, the start of the parity region. -/
def parityOffset (total bs dw ns : Nat) : Nat := dw * blockCount total bs ns + longBlocks total bs ns

/-- R262: the size of block `k`; the short blocks come first. -/
def blockSizeOf (bs ns k : Nat) : Nat := if k < ns then bs else bs + 1

/-- R262: the data words of block `k`. -/
def dataWordsOf (dw ns k : Nat) : Nat := if k < ns then dw else dw + 1

/-- R264: block `k` gathered from the stream: `kdw` data words at `j * bc + k`, then `npar` parity words at
`eo + j * bc + k`. -/
def gather (raw : Nat → Byte) (bc eo kdw npar k : Nat) : List Byte :=
  (List.range kdw).map (fun j => raw (j * bc + k))
    ++ (List.range npar).map (fun j => raw (eo + j * bc + k))

/-- R261: one gathered block corrected. -/
def deintBlock (raw : Nat → Byte) (total bs dw ns k : Nat) : List Byte × Bool :=
  correctBlock
    (gather raw (blockCount total bs ns) (parityOffset total bs dw ns) (dataWordsOf dw ns k) (parityCount bs dw) k)
    (blockSizeOf bs ns k) (dataWordsOf dw ns k)

/-- R261: the blocks in order: the data words of all of them, or the first block whose correction fails. -/
def deintBlocks (raw : Nat → Byte) (total bs dw ns : Nat) : List Nat → Except Nat (List Byte)
  | [] => .ok []
  | k :: ks =>
    let r := deintBlock raw total bs dw ns k
    if r.2 = false then .error k
    else match deintBlocks raw total bs dw ns ks with
      | .ok ds => .ok (r.1.take (dataWordsOf dw ns k) ++ ds)
      | .error j => .error j

/-- R261: the whole stream. -/
def deintStream (raw : Nat → Byte) (total bs dw ns : Nat) : Except Nat (List Byte) :=
  deintBlocks raw total bs dw ns (List.range (blockCount total bs ns))

/-- R261: what a finished run leaves. DATA beyond the bytes written, and all of it after a failure, is unspecified
(R261; U4; log 4, log 17). -/
def State.storeStream (s : State) (r : Except Nat (List Byte)) (bc : Nat) : ErrCode × State :=
  match r with
  | .ok data =>
    (.success,
      { (s.unspecifyBuf .data).writeBuf .data data with
        dataBits := BitVec.ofNat 17 (8 * data.length), blockIdx := BitVec.ofNat 14 bc })
  | .error k =>
    (.dataEcc, { s.unspecifyBuf .data with dataBits := 0, blockIdx := BitVec.ofNat 14 k })

/-- R261: the effect of DEINT, with the intermediates unspecified afterwards (R49). -/
def deintEffect (s : State) : ErrCode × State :=
  if deintAdmitted s.totalWords s.bs s.dw s.ns = false then (.badParam, s)
  else
    let lb := longBlocks s.totalWords s.bs s.ns
    let bc := blockCount s.totalWords s.bs s.ns
    let t := { s with deintInfo := { lb := BitVec.ofNat 14 lb, bc := BitVec.ofNat 14 bc } }
    let r := t.storeStream (deintStream (s.buf .raw) s.totalWords s.bs s.dw s.ns) bc
    (r.1, r.2.unspecifyIntermediates)

/-- DEINT (R261). -/
def execDeint (s : State) : Host.Outcome State Fault Refusal := State.finish (deintEffect s)

end Sys2Proof.Machine
end

