-- ==== Sys2Proof/Machine/FormatBch.lean ====
section
/-! DEFINITION. The format BCH decoder (44_format_bch.md): correction of one unmasked word (R222) and the command FMT_DEC
(R221). -/

namespace Sys2Proof.Machine

/-- FMT_MASK, the whitening constant (R220; 00_scope.md R8). -/
def fmtMask : BitVec 15 := 0x5412

/-- R222: the bits the root search flips, bit `i` when `sigma` vanishes at `EXP16[15 - i]`. -/
def fmtErrorBits (sigma : Poly) : BitVec 15 :=
  (List.range 15).foldl
    (fun e i => if polyEval gf16 sigma (exp16 (15 - i)) = 0 then e ^^^ (1#15 <<< i) else e)
    0

/-- R222: `correct_format(u)`, the word after correction and whether its syndromes are all zero. -/
def correctFormat (u : BitVec 15) : BitVec 15 × Bool :=
  if anyNonzero (fmtSyndromes u) = false then (u, true)
  else
    let w := u ^^^ fmtErrorBits (bm gf16 (fmtSyndromes u) 6).C
    (w, !anyNonzero (fmtSyndromes w))

/-- R221, R45: the contents of FMT_OUT for a corrected word and the location it came from. -/
def FmtOut.ofWord (w : BitVec 15) (loc : Bool) : FmtOut :=
  { word := w, eccLevel := w.extractLsb' 13 2, mask := w.extractLsb' 10 3, loc := loc, valid := true }

/-- R221: FMT_OUT after FORMAT_ECC, all zero. -/
def FmtOut.none : FmtOut := { word := 0, eccLevel := 0, mask := 0, loc := false, valid := false }

/-- R221: location A first, then location B. -/
def decodeFormat (rawA rawB : BitVec 15) : ErrCode × FmtOut :=
  let a := correctFormat (rawA ^^^ fmtMask)
  if a.2 = true then (.success, FmtOut.ofWord a.1 false)
  else
    let b := correctFormat (rawB ^^^ fmtMask)
    if b.2 = true then (.success, FmtOut.ofWord b.1 true)
    else (.formatEcc, FmtOut.none)

/-- R221: the effect of FMT_DEC, with the intermediates unspecified afterwards (R49). -/
def fmtDecEffect (s : State) : ErrCode × State :=
  let r := decodeFormat s.fmtA s.fmtB
  (r.1, { s.unspecifyIntermediates with fmtOut := r.2 })

/-- FMT_DEC (R221). -/
def execFmtDec (s : State) : Host.Outcome State Fault Refusal := State.finish (fmtDecEffect s)

end Sys2Proof.Machine
end

