-- ==== Sys2Proof/Machine/Sequencer.lean ====
section
/-! DEFINITION. The sequencer's own command, NOP (40_command_lifecycle.md R146). -/

namespace Sys2Proof.Machine

/-- NOP (R146): nothing but the completion of R143. -/
def execNop (s : State) : Host.Outcome State Fault Refusal := State.finish (.success, s)

end Sys2Proof.Machine
end

