-- ==== Sys2Proof/Machine/Dispatch.lean ====
section
/-! DEFINITION. One arm per command: the whole completion step of that command (40_command_lifecycle.md R143, R144). -/

namespace Sys2Proof.Machine

def exec (i : Instr) (s : State) : Host.Outcome State Fault Refusal :=
  match i with
  | .nop => Sys2Proof.Machine.execNop s
  | .gf16Mul => Sys2Proof.Machine.execGf16Mul s
  | .gf256Mul => Sys2Proof.Machine.execGf256Mul s
  | .synd16 => Sys2Proof.Machine.execSynd16 s
  | .synd256 => Sys2Proof.Machine.execSynd256 s
  | .bm16 => Sys2Proof.Machine.execBm16 s
  | .bm256 => Sys2Proof.Machine.execBm256 s
  | .fmtDec => Sys2Proof.Machine.execFmtDec s
  | .rsDec => Sys2Proof.Machine.execRsDec s
  | .deint => Sys2Proof.Machine.execDeint s

end Sys2Proof.Machine
end

