-- ==== Sys2Proof/Machine/Engine.lean ====
section
/-! DEFINITION. The engine's one step (40_command_lifecycle.md R143, R144), whose turn it is, and how a command word is
placed where the engine takes it (log 5, log 6). -/

namespace Sys2Proof.Machine

/-- R143, R144: the completion step of the command word `w`: its command's, or ILLEGAL_CMD and nothing else. -/
def execute (w : Word) (s : State) : Host.Outcome State Fault Refusal :=
  match decode w with
  | .ok i => exec i s
  | .error _ => State.finish (.illegalCmd, s)

/-- Whether the next step is the engine's: it is enabled exactly when BUSY is 1 (R143), and the host's next input is
either absent or one that lands after the completion. When it takes its step is not specified (R345); every order is
some list of inputs (log 5). -/
def State.engineTurn (s : State) : Bool :=
  s.status.busy &&
    match s.inputs with
    | [] => true
    | i :: _ => i.afterCompletion

/-- The inputs, the first of which waits for the completion of a command in flight. -/
def inputsAfterCompletion : List Input → List Input
  | [] => []
  | i :: is => { i with afterCompletion := true } :: is

/-- The host's write of a command word to CMD as a placement: the launch of R141, with the engine next. -/
def State.placeCommand (s : State) (w : Word) : State :=
  { s.launch w with inputs := inputsAfterCompletion s.inputs }

/-- The host's turn: the next input, or nothing while QRCORE waits idle (R332; log 10). -/
def hostTurn (s : State) : Host.Outcome State Fault Refusal :=
  match s.inputs with
  | [] => .next s
  | i :: is => hostEvent i.event { s with inputs := is }

end Sys2Proof.Machine
end

