-- ==== Sys2Proof/Machine/Step.lean ====
section
/-! DEFINITION. One step of QRCORE and its host: the engine's completion step or the host's next input, one at a time
(20_memory.md R93). -/

namespace Sys2Proof.Machine

/-- One step (R93, R143). -/
def step (s : State) : Host.Outcome State Fault Refusal :=
  if s.engineTurn = true then execute s.cmd s else hostTurn s

/-- The state in which the very next step runs the command word of an opcode-table row: it stands for the host's
write of that word to CMD (R141; log 6). -/
def State.withFetchWord (s : State) (nbits w : Nat) : State := s.placeCommand (tableWord nbits w)

end Sys2Proof.Machine
end

