-- ==== Sys2Proof/Machine/HostProgram.lean ====
section
/-! DEFINITION. The host notation of 30_encoding.md R115 and R116 as lists of inputs. The host's own control flow (labels,
`goto`, `check`) is outside QRCORE (10_state.md R31; log 21). -/

namespace Sys2Proof.Machine

/-- `wr OFF, V`. -/
def wr (off : BitVec 16) (v : Word) : Input :=
  { afterCompletion := false, event := .access (.write .w32 0xF off v) }

/-- `rd OFF`. -/
def rd (off : BitVec 16) : Input := { afterCompletion := false, event := .access (.read .w32 off) }

/-- The same input, landing after the completion of a command in flight. -/
def Input.late (i : Input) : Input := { i with afterCompletion := true }

/-- Four bytes as a word, little-endian (R86, R116). -/
def packWord (b0 b1 b2 b3 : Byte) : Word := b3 ++ b2 ++ b1 ++ b0

/-- `wrb`, from a window offset on: one `wr` per four bytes, the last word padded with zeros (R115, R116). -/
def wrbFrom : Nat → List Byte → List Input
  | _, [] => []
  | a, [b0] => [wr (BitVec.ofNat 16 a) (packWord b0 0 0 0)]
  | a, [b0, b1] => [wr (BitVec.ofNat 16 a) (packWord b0 b1 0 0)]
  | a, [b0, b1, b2] => [wr (BitVec.ofNat 16 a) (packWord b0 b1 b2 0)]
  | a, b0 :: b1 :: b2 :: b3 :: bs => wr (BitVec.ofNat 16 a) (packWord b0 b1 b2 b3) :: wrbFrom (a + 4) bs

/-- `wrb BUF, I, b0 b1 ...` (R115). -/
def wrb (b : Buf) (i : Nat) (bytes : List Byte) : List Input := wrbFrom (b.base + i) bytes

/-- `cmd MNEMONIC`: the write of its word to CMD (R115). -/
def cmd (i : Instr) : Input := wr 0x004 (encode i)

/-- `wait`, with `polls` reads of STATUS that find the engine busy and one after the completion (R115, R340). -/
def wait (polls : Nat) : List Input := List.replicate polls (rd 0x008) ++ [(rd 0x008).late]

end Sys2Proof.Machine
end

