-- ==== Sys2Proof/Machine/Platform.lean ====
section
/-! DEFINITION. Several instances on one platform (60_exceptions.md R320), each at its own base (20_memory.md R82). -/

namespace Sys2Proof.Machine

/-- One instance of QRCORE on a platform: BASE is `0x10000 * baseBlock`, any 64 KiB-aligned address (R82; log 12). -/
structure Instance where
  baseBlock : Nat
  core : State
  deriving DecidableEq, Repr

/-- The instances of a platform; N_INSTANCES is the length (00_scope.md R9; log 13). -/
abbrev Platform := List Instance

/-- BASE of an instance (R82). -/
def Instance.base (n : Instance) : Nat := 0x10000 * n.baseBlock

/-- The window offset of a platform address, if the address lies in the instance's 64 KiB window (R80, R82). -/
def Instance.offsetOf (n : Instance) (addr : Nat) : Option (BitVec 16) :=
  if addr / 0x10000 = n.baseBlock then some (BitVec.ofNat 16 (addr % 0x10000)) else none

/-- The platform address of a window offset. -/
def Instance.addressOf (n : Instance) (off : BitVec 16) : Nat := n.base + off.toNat

/-- One step of the instance at an index; the others do not move (R320). -/
def Platform.stepAt (p : Platform) (k : Nat) : Host.Outcome Platform Fault Refusal :=
  match p[k]? with
  | none => .next p
  | some n =>
    match step n.core with
    | .next s => .next (p.set k { n with core := s })
    | .fault r => .fault r
    | .refused r => .refused r

/-- The interrupt outputs of the instances (R310, R320). -/
def Platform.irqs (p : Platform) : List Bool := p.map fun n => n.core.irq

end Sys2Proof.Machine
end

