-- ==== Sys2Proof/Safety.lean ====
section
/-! DEFINITION. The terms the statements use: the spec's own mathematical meaning of the results (polynomial products,
Horner evaluation, BCH codewords), the table of refused operands, and the invariant every step keeps. None of it is used
by the machine. -/

namespace Sys2Proof.Machine

/-! Field arithmetic without tables (41_gf_arith.md R164). -/

/-- The product of two polynomials over GF(2), bit by bit. -/
def carrylessProduct (a b : Byte) : BitVec 16 :=
  (List.range 8).foldl (fun acc i => if b.getLsbD i then acc ^^^ (a.setWidth 16 <<< i) else acc) 0

/-- The remainder of a polynomial over GF(2) by `modulus`, whose degree is `deg`. -/
def polyRemainder (modulus : BitVec 16) (deg : Nat) (p : BitVec 16) : BitVec 16 :=
  (List.range (16 - deg)).foldl
    (fun acc i => if acc.getLsbD (15 - i) then acc ^^^ (modulus <<< (15 - i - deg)) else acc) p

/-- "the polynomial product of `a` and `b` over GF(2) reduced modulo 0x13" (R164). -/
def polyProduct16 (a b : Byte) : Byte := (polyRemainder 0x13 4 (carrylessProduct a b)).setWidth 8

/-- "the polynomial product of `a` and `b` over GF(2) reduced modulo 0x11D" (R164). -/
def polyProduct256 (a b : Byte) : Byte := (polyRemainder 0x11D 8 (carrylessProduct a b)).setWidth 8

/-- `alpha^k` by repeated multiplication by `alpha = x` and reduction (10_state.md R41, R43). -/
def alphaPower (mul : Byte → Byte → Byte) : Nat → Byte
  | 0 => 1
  | k + 1 => mul (alphaPower mul k) 2

/-- Horner evaluation of a polynomial, its coefficients from the highest power down. -/
def horner (mul : Byte → Byte → Byte) (x : Byte) (coeffs : List Byte) : Byte :=
  coeffs.foldl (fun acc c => mul acc x ^^^ c) 0

/-- The coefficients of a 15-bit word from `x^14` down (20_memory.md R92). -/
def wordCoeffs (u : BitVec 15) : List Byte :=
  (List.range 15).map fun j => if u.getLsbD (14 - j) then 1 else 0

/-- "`d * 2^10 + ((d * 2^10) mod G)` for `d` in 0..31", with `G = 0x537` (44_format_bch.md R220). -/
def bchCodeword (d : BitVec 5) : BitVec 15 :=
  (d.setWidth 15 <<< 10) ^^^ (polyRemainder 0x537 10 (d.setWidth 16 <<< 10)).setWidth 15

/-- The number of set bits of a 15-bit word. -/
def bitCount (u : BitVec 15) : Nat := (List.range 15).countP fun j => u.getLsbD j

/-! The window. -/

/-- R81: the offsets that are mapped. -/
def mappedOffset (a : Nat) : Prop :=
  a < 0x50 ∨ (0x100 ≤ a ∧ a ≤ 0x13F) ∨ (0x140 ≤ a ∧ a ≤ 0x17F) ∨ (0x200 ≤ a ∧ a ≤ 0x2FF)
    ∨ (0x4000 ≤ a ∧ a ≤ 0x62BF) ∨ (0x8000 ≤ a ∧ a ≤ 0xA2BF)

/-! Refused operands. -/

/-- R302: when a command completes with BAD_PARAM. -/
def badParam (i : Instr) (s : State) : Prop :=
  match i with
  | .nop | .gf256Mul | .synd16 | .fmtDec => False
  | .gf16Mul => 15 < s.opa.toNat ∨ 15 < s.opb.toNat
  | .synd256 | .rsDec =>
    s.rsBs.toNat = 0 ∨ s.rsBs.toNat < s.rsDw.toNat ∨ 64 < s.rsBs.toNat - s.rsDw.toNat
  | .bm16 => 64 < s.synN.toNat ∨ ∃ k, k < s.synN.toNat ∧ 15 < (s.buf .s k).toNat
  | .bm256 => 64 < s.synN.toNat
  | .deint =>
    8896 < s.total.toNat ∨ s.rsBs.toNat = 0 ∨ s.rsBs.toNat ≤ s.rsDw.toNat
      ∨ 64 < s.rsBs.toNat - s.rsDw.toNat ∨ s.total.toNat < s.rsBs.toNat * s.rsNs.toNat
      ∨ (0 < (s.total.toNat - s.rsBs.toNat * s.rsNs.toNat) / (s.rsBs.toNat + 1) ∧ s.rsBs.toNat = 255)

/-- R143 on STATUS: what a completion with a code leaves there, given the NZ flag it ends with. -/
def completedStatus (t : Status) (code : BitVec 4) (nz : Bool) : Status :=
  { busy := false, done := true, err := decide (code ≠ 0), nz := nz, werr := t.werr, errCode := code }

/-! Frames. -/

/-- Every byte of memory outside the listed buffers reads the same in both states. -/
def sameBytesOutside (bufs : List Buf) (s t : State) : Prop :=
  ∀ a, (∀ b ∈ bufs, ¬ (b.base ≤ a ∧ a < b.base + b.size)) → t.byteAt a = s.byteAt a

/-- `t` is `s` but for what FMT_DEC, RS_DEC and DEINT leave unspecified (10_state.md R49), the memory, the model's own
draws, and the completion's STATUS and IRQ_PEND with the given code. -/
def completedUpTo (s t : State) (code : BitVec 4) : Prop :=
  ∃ nz bmL mem gens draws,
    t = { s with
          status := completedStatus s.status code nz, irqPend := true, bmL := bmL
          mem := mem, gens := gens, draws := draws }

/-! The invariant. -/

/-- What holds in every state a run from a good state reaches. -/
structure State.Inv (s : State) : Prop where
  /-- memory is in canonical form -/
  memWf : s.mem.wf
  /-- every buffer's free bytes come from a draw already made -/
  gensOld : ∀ b, s.gens.of b < s.draws
  /-- a launch cleared DONE, ERR and ERRCODE (R141) -/
  busyClean : s.status.busy = true → s.status.done = false ∧ s.status.err = false ∧ s.status.errCode = 0
  /-- ERR says that ERRCODE is not 0 (R35) -/
  errIff : s.status.err = true ↔ s.status.errCode ≠ 0
  /-- only the codes QRCORE produces (R300) -/
  codes : s.status.errCode = 0 ∨ s.status.errCode = 3 ∨ s.status.errCode = 4 ∨ s.status.errCode = 8 ∨
    s.status.errCode = 9
  /-- an error is that of a completed command (R35) -/
  errDone : s.status.err = true → s.status.done = true
  /-- FMT_OUT is 0, or the fields of a word whose syndromes are all zero (R45, R222) -/
  fmtOut : s.fmtOut = FmtOut.none ∨
    ∃ w loc, s.fmtOut = FmtOut.ofWord w loc ∧ anyNonzero (fmtSyndromes w) = false
  /-- DATA_BITS counts whole bytes of DATA (R52, R263) -/
  dataBits : s.dataBits.toNat ≤ 71168 ∧ s.dataBits.toNat % 8 = 0
  /-- the block counts stay below R263's bound -/
  counts : s.deintInfo.lb.toNat ≤ s.deintInfo.bc.toNat ∧ s.deintInfo.bc.toNat ≤ 4703 ∧ s.blockIdx.toNat ≤ 4703
  /-- while the reset input is asserted every register has its reset value and no byte is written (R330) -/
  inReset : s.resetLine = true →
    s = { State.reset with
          resetLine := true, gens := s.gens, draws := s.draws, inputs := s.inputs, answers := s.answers }

end Sys2Proof.Machine
end

