-- ==== Sys2Proof/Certificates/Slice0/Obligations.lean ====
section
/-! DEFINITION. The statements about QRCORE for the provers, in the order of the spec's files. -/

open Sys2Proof Sys2Proof.Machine

/-! ## Encoding (30_encoding.md) -/

/-- R111: six of the words of the opcode map, written out from RSV, F and OP, select their commands. -/
def Obligations.WrittenOutWordsDecode : Prop :=
  decode 0b000000000000000000000000000_0_0001#32 = .ok .gf16Mul ∧
  decode 0b000000000000000000000000000_1_0011#32 = .ok .synd256 ∧
  decode 0b000000000000000000000000000_1_0100#32 = .ok .bm256 ∧
  decode 0b000000000000000000000000000_0_0101#32 = .ok .fmtDec ∧
  decode 0b000000000000000000000000000_0_0110#32 = .ok .rsDec ∧
  decode 0b000000000000000000000000000_0_0111#32 = .ok .deint

/-- R110, R111: the word laid out from a command's fields decodes to the command. -/
def Obligations.EncodeThenDecode : Prop := ∀ i : Instr, decode (encode i) = .ok i

/-- R111: "A word selects a command only if all 32 bits equal the word in the table". -/
def Obligations.WordSelectsOnlyItsOwnCommand : Prop :=
  ∀ (w : Word) (i : Instr), decode w = .ok i ↔ w = encode i

/-- R113: which words are illegal, by their fields; such a word, in flight on the engine's turn, completes with
ILLEGAL_CMD (code 8) and no other effect. -/
def Obligations.IllegalWordCompletesWithIllegalCmd : Prop :=
  (∀ w : Word,
    (∀ i, w ≠ encode i) ↔
      w.extractLsb' 5 27 ≠ 0 ∨ 8 ≤ (w.extractLsb' 0 4).toNat ∨
        (w.getLsbD 4 = true ∧ w.extractLsb' 0 4 ≠ 3 ∧ w.extractLsb' 0 4 ≠ 4)) ∧
  (∀ s : State, s.engineTurn = true → (∀ i, s.cmd ≠ encode i) →
    step s = .next { s with status := completedStatus s.status 8 s.status.nz, irqPend := true })

/-! ## Lifecycle (40_command_lifecycle.md) -/

/-- R144: `Execute(w)` runs the command that `w` names, and for any other word returns ILLEGAL_CMD and writes nothing. -/
def Obligations.ExecuteRunsNamedCommand : Prop :=
  ∀ (w : Word) (s : State),
    (∀ i, w = encode i → execute w s = exec i s) ∧
    ((∀ i, w ≠ encode i) →
      execute w s = .next { s with status := completedStatus s.status 8 s.status.nz, irqPend := true })

/-- R143: the engine's step, enabled when BUSY is 1 and the host's next input does not come first, is the completion of
the command whose word is in CMD; nothing is added around it. The clause on the inputs is the model's (log 5). -/
def Obligations.StepRunsDecodedCommand : Prop :=
  ∀ (s : State) (i : Instr), s.status.busy = true →
    (s.inputs = [] ∨ ∃ x xs, s.inputs = x :: xs ∧ x.afterCompletion = true) →
    decode s.cmd = .ok i → step s = exec i s

/-- Otherwise the step is the host's next input, or nothing while QRCORE waits (R332; the model's choice, log 5 and
log 10). -/
def Obligations.StepTakesNextInput : Prop :=
  ∀ s : State,
    (s.status.busy = false → s.inputs = [] → step s = .next s) ∧
    (∀ x xs, s.inputs = x :: xs → (s.status.busy = false ∨ x.afterCompletion = false) →
      step s = hostEvent x.event { s with inputs := xs })

/-- A command word placed for the engine is what the very next step runs (log 6). -/
def Obligations.PlacedCommandRunsNext : Prop :=
  ∀ (s : State) (i : Instr),
    step (s.withFetchWord 32 (encode i).toNat) = exec i (s.withFetchWord 32 (encode i).toNat)

/-- R141: the launch, and that no other state changes. -/
def Obligations.LaunchWritesExactly : Prop :=
  ∀ (s : State) (w : Word), s.status.busy = false → s.resetLine = false →
    hostEvent (.access (.write .w32 0xF 0x004 w)) s =
      .next { s with
        cmd := w
        status :=
          { busy := true, done := false, err := false, nz := s.status.nz, werr := s.status.werr, errCode := 0 }
        answers := .written :: s.answers }

/-- R142: while busy a legal write changes nothing but WERR, except at STATUS, IRQ_EN and IRQ_PEND, where it acts. -/
def Obligations.WritesWhileBusyAreDropped : Prop :=
  ∀ (s : State) (off : BitVec 16) (v : Word), s.status.busy = true → s.resetLine = false →
    (off.toNat % 4 = 0 → mappedOffset off.toNat → off ≠ 0x008 → off ≠ 0x00C → off ≠ 0x010 →
      hostEvent (.access (.write .w32 0xF off v)) s =
        .next { s with status := { s.status with werr := true }, answers := .written :: s.answers }) ∧
    (off = 0x008 → hostEvent (.access (.write .w32 0xF off v)) s =
      .next { s with
        status := { s.status with werr := s.status.werr && !v.getLsbD 4 }, answers := .written :: s.answers }) ∧
    (off = 0x00C → hostEvent (.access (.write .w32 0xF off v)) s =
      .next { s with irqEn := v.getLsbD 0, answers := .written :: s.answers }) ∧
    (off = 0x010 → hostEvent (.access (.write .w32 0xF off v)) s =
      .next { s with irqPend := s.irqPend && !v.getLsbD 0, answers := .written :: s.answers })

/-- R143, R300: every command ends: idle, DONE, the pending bit, ERR exactly when the code is not 0, and a code of
R300 (0, 3, 4 or 9); CMD and WERR keep their values. -/
def Obligations.EveryCommandReportsCompletion : Prop :=
  ∀ (i : Instr) (s : State), ∃ t code,
    exec i s = .next t ∧ t.status = completedStatus s.status code t.status.nz ∧ t.irqPend = true ∧ t.cmd = s.cmd ∧
      (code = 0 ∨ code = 3 ∨ code = 4 ∨ code = 9)

/-- R302: exactly the operands of the table are refused with BAD_PARAM (code 9), and then all state but STATUS and
IRQ_PEND is unchanged (R145). -/
def Obligations.BadParamExactlyByTable : Prop :=
  ∀ (i : Instr) (s : State),
    (badParam i s → exec i s =
      .next { s with status := completedStatus s.status 9 s.status.nz, irqPend := true }) ∧
    (¬ badParam i s → ∃ t, exec i s = .next t ∧ t.status.errCode ≠ 9)

/-- R146: NOP is the word 0 and only reports its completion. -/
def Obligations.NopOnlyCompletes : Prop :=
  decode 0x00000000 = .ok .nop ∧
  ∀ s : State,
    exec .nop s = .next { s with status := completedStatus s.status 0 s.status.nz, irqPend := true }

/-! ## Galois-field arithmetic (41_gf_arith.md) -/

/-- R161, R167: GF16_MUL's product through the tables, and its refusal, with everything else unchanged. -/
def Obligations.Gf16MulWritesProduct : Prop :=
  decode 0x00000001 = .ok .gf16Mul ∧
  ∀ s : State,
    (s.opa.toNat ≤ 15 ∧ s.opb.toNat ≤ 15 → exec .gf16Mul s =
      .next { s with
        result := if s.opa = 0 ∨ s.opb = 0 then 0 else exp16 ((log16 s.opa + log16 s.opb) % 15)
        status := completedStatus s.status 0 s.status.nz
        irqPend := true }) ∧
    (15 < s.opa.toNat ∨ 15 < s.opb.toNat → exec .gf16Mul s =
      .next { s with status := completedStatus s.status 9 s.status.nz, irqPend := true })

/-- R162, R168: GF256_MUL's product through the tables, with everything else unchanged; it never errs. -/
def Obligations.Gf256MulWritesProduct : Prop :=
  decode 0x00000002 = .ok .gf256Mul ∧
  ∀ s : State, exec .gf256Mul s =
    .next { s with
      result := if s.opa = 0 ∨ s.opb = 0 then 0 else exp256 ((log256 s.opa + log256 s.opb) % 255)
      status := completedStatus s.status 0 s.status.nz
      irqPend := true }

/-- R164: the table products are the polynomial products modulo 0x13 and 0x11D. -/
def Obligations.TableProductsArePolynomialProducts : Prop :=
  (∀ a b : Byte, a.toNat ≤ 15 → b.toNat ≤ 15 → gf16.mul a b = polyProduct16 a b) ∧
  (∀ a b : Byte, gf256.mul a b = polyProduct256 a b)

/-- R164: the laws of the byte field. -/
def Obligations.Mul256FieldLaws : Prop :=
  ∀ a b c : Byte,
    gf256.mul a b = gf256.mul b a ∧
    gf256.mul (gf256.mul a b) c = gf256.mul a (gf256.mul b c) ∧
    gf256.mul a (b ^^^ c) = gf256.mul a b ^^^ gf256.mul a c ∧
    gf256.mul 1 a = a ∧ gf256.mul 0 a = 0 ∧
    (a ≠ 0 → ∀ a' : Byte, gf256.mul a a' = 1 ↔ a' = exp256 ((255 - log256 a) % 255)) ∧
    (gf256.mul a b = 0 → a = 0 ∨ b = 0)

/-- R164: the laws of the 16-element field. -/
def Obligations.Mul16FieldLaws : Prop :=
  ∀ a b c : Byte, a.toNat ≤ 15 → b.toNat ≤ 15 → c.toNat ≤ 15 →
    (gf16.mul a b).toNat ≤ 15 ∧
    gf16.mul a b = gf16.mul b a ∧
    gf16.mul (gf16.mul a b) c = gf16.mul a (gf16.mul b c) ∧
    gf16.mul a (b ^^^ c) = gf16.mul a b ^^^ gf16.mul a c ∧
    gf16.mul 1 a = a ∧ gf16.mul 0 a = 0 ∧
    (a ≠ 0 → (gf16.mul a b = 1 ↔ b = exp16 ((15 - log16 a) % 15))) ∧
    (gf16.mul a b = 0 → a = 0 ∨ b = 0)

/-- R41 to R44: the EXP tables are the powers of `alpha = 2`, and the LOG tables invert them. -/
def Obligations.TablesArePowersOfAlpha : Prop :=
  (∀ k, k < 15 → exp16 k = alphaPower polyProduct16 k) ∧ exp16 15 = 1 ∧
  (∀ k, 1 ≤ k → k ≤ 14 → log16 (exp16 k) = k) ∧ log16 1 = 15 ∧ log16 0 = 0 ∧
  (∀ k, k < 255 → exp256 k = alphaPower polyProduct256 k) ∧ exp256 255 = 1 ∧
  (∀ k, 1 ≤ k → k ≤ 254 → log256 (exp256 k) = k) ∧ log256 1 = 255 ∧ log256 0 = 0

/-! ## Syndromes (42_syndrome.md) -/

/-- R180, R181: SYND16 writes `S[i] = U(alpha^(i+1))` for the six format syndromes and zeros above them, sets NZ iff
one is nonzero, and changes nothing else. -/
def Obligations.Synd16WritesWordSyndromes : Prop :=
  decode 0x00000003 = .ok .synd16 ∧
  ∀ s : State, ∃ mem nz,
    exec .synd16 s =
      .next { s with mem := mem, status := completedStatus s.status 0 nz, irqPend := true } ∧
    (∀ i, i < 64 → ({ s with mem := mem } : State).buf .s i =
      if i < 6 then horner gf16.mul (alphaPower gf16.mul (i + 1)) (wordCoeffs s.fmtA) else 0) ∧
    (nz = true ↔ ∃ i, i < 64 ∧ ({ s with mem := mem } : State).buf .s i ≠ 0) ∧
    sameBytesOutside [.s] s { s with mem := mem }

/-- R182, R183: SYND256 on admitted operands writes `S[i] = R(alpha^i)` for the `npar` block syndromes and zeros above
them, sets NZ iff one is nonzero, and changes nothing else; other operands are refused. -/
def Obligations.Synd256WritesBlockSyndromes : Prop :=
  decode 0x00000013 = .ok .synd256 ∧
  ∀ s : State,
    (badParam .synd256 s → exec .synd256 s =
      .next { s with status := completedStatus s.status 9 s.status.nz, irqPend := true }) ∧
    (¬ badParam .synd256 s → ∃ mem nz,
      exec .synd256 s =
        .next { s with mem := mem, status := completedStatus s.status 0 nz, irqPend := true } ∧
      (∀ i, i < 64 → ({ s with mem := mem } : State).buf .s i =
        if i < s.rsBs.toNat - s.rsDw.toNat then
          horner gf256.mul (alphaPower gf256.mul i) (s.bufPrefix .blk s.rsBs.toNat)
        else 0) ∧
      (nz = true ↔ ∃ i, i < 64 ∧ ({ s with mem := mem } : State).buf .s i ≠ 0) ∧
      sameBytesOutside [.s] s { s with mem := mem })

/-- R184, R220: the format syndromes vanish exactly on the 32 codewords of the (15,5,7) BCH code. -/
def Obligations.FormatSyndromesZeroIffCodeword : Prop :=
  ∀ u : BitVec 15, anyNonzero (fmtSyndromes u) = false ↔ u = bchCodeword (u.extractLsb' 10 5)

/-! ## Berlekamp–Massey (43_berlekamp_massey.md) -/

/-- R200: BM16 on admitted operands writes the locator of `S[0..N)` to SIGMA and its length to BM_L,
nothing else; other operands are refused with BAD_PARAM. -/
def Obligations.Bm16WritesLocator : Prop :=
  decode 0x00000004 = .ok .bm16 ∧
  ∀ s : State,
    (badParam .bm16 s → exec .bm16 s =
      .next { s with status := completedStatus s.status 9 s.status.nz, irqPend := true }) ∧
    (¬ badParam .bm16 s → ∃ mem,
      exec .bm16 s =
        .next { s with
          mem := mem
          bmL := BitVec.ofNat 7 (bm gf16 (s.bufPrefix .s s.synN.toNat) s.synN.toNat).L
          status := completedStatus s.status 0 s.status.nz
          irqPend := true } ∧
      (∀ i, i < 64 → ({ s with mem := mem } : State).buf .sigma i =
        (bm gf16 (s.bufPrefix .s s.synN.toNat) s.synN.toNat).C.coeff i) ∧
      sameBytesOutside [.sigma] s { s with mem := mem })

/-- R202: BM256 on admitted operands writes the locator of `S[0..N)` to SIGMA and its length to BM_L,
nothing else; other operands are refused with BAD_PARAM. -/
def Obligations.Bm256WritesLocator : Prop :=
  decode 0x00000014 = .ok .bm256 ∧
  ∀ s : State,
    (badParam .bm256 s → exec .bm256 s =
      .next { s with status := completedStatus s.status 9 s.status.nz, irqPend := true }) ∧
    (¬ badParam .bm256 s → ∃ mem,
      exec .bm256 s =
        .next { s with
          mem := mem
          bmL := BitVec.ofNat 7 (bm gf256 (s.bufPrefix .s s.synN.toNat) s.synN.toNat).L
          status := completedStatus s.status 0 s.status.nz
          irqPend := true } ∧
      (∀ i, i < 64 → ({ s with mem := mem } : State).buf .sigma i =
        (bm gf256 (s.bufPrefix .s s.synN.toNat) s.synN.toNat).C.coeff i) ∧
      sameBytesOutside [.sigma] s { s with mem := mem })

/-- R203: `sigma[0] = 1` always, and `L` never exceeds the number of syndromes. -/
def Obligations.LocatorConstantTermAndLength : Prop :=
  ∀ (gf : Gf) (syn : Poly) (N : Nat), (bm gf syn N).C.coeff 0 = 1 ∧ (bm gf syn N).L ≤ N

/-- R203: the locator is a feedback register of length `L` that generates the syndromes: the recurrence it defines
holds at every index from `L` on. -/
def Obligations.LocatorGeneratesSyndromes : Prop :=
  ∀ (gf : Gf) (syn : Poly) (N : Nat), gf = gf16 ∨ gf = gf256 → N ≤ 63 →
    (∀ k, k < N → (syn.coeff k).toNat ≤ gf.order) →
    ∀ n, (bm gf syn N).L ≤ n → n < N →
      (List.range ((bm gf syn N).L + 1)).foldl
        (fun acc i => acc ^^^ gf.mul ((bm gf syn N).C.coeff i) (syn.coeff (n - i))) 0 = 0

/-! ## Format words (44_format_bch.md) -/

/-- R221: FMT_DEC tries location A, then location B; what FMT_OUT holds after each outcome, the code, and that nothing
else changes but what R49 leaves unspecified. -/
def Obligations.FmtDecTriesBothLocations : Prop :=
  decode 0x00000005 = .ok .fmtDec ∧
  ∀ s : State, ∃ t, exec .fmtDec s = .next t ∧ sameBytesOutside [.s, .sigma] s t ∧
    ((correctFormat (s.fmtA ^^^ 0x5412)).2 = true →
      completedUpTo
        { s with fmtOut :=
          { word := (correctFormat (s.fmtA ^^^ 0x5412)).1
            eccLevel := (correctFormat (s.fmtA ^^^ 0x5412)).1.extractLsb' 13 2
            mask := (correctFormat (s.fmtA ^^^ 0x5412)).1.extractLsb' 10 3
            loc := false, valid := true } } t 0) ∧
    ((correctFormat (s.fmtA ^^^ 0x5412)).2 = false → (correctFormat (s.fmtB ^^^ 0x5412)).2 = true →
      completedUpTo
        { s with fmtOut :=
          { word := (correctFormat (s.fmtB ^^^ 0x5412)).1
            eccLevel := (correctFormat (s.fmtB ^^^ 0x5412)).1.extractLsb' 13 2
            mask := (correctFormat (s.fmtB ^^^ 0x5412)).1.extractLsb' 10 3
            loc := true, valid := true } } t 0) ∧
    ((correctFormat (s.fmtA ^^^ 0x5412)).2 = false → (correctFormat (s.fmtB ^^^ 0x5412)).2 = false →
      completedUpTo
        { s with fmtOut := { word := 0, eccLevel := 0, mask := 0, loc := false, valid := false } } t 3)

/-- R224: every codeword with at most three flipped bits is corrected to itself. -/
def Obligations.FormatCorrectsThreeErrors : Prop :=
  ∀ (d : BitVec 5) (e : BitVec 15), bitCount e ≤ 3 →
    correctFormat (bchCodeword d ^^^ e) = (bchCodeword d, true)

/-- R221, R224: so a location A with at most three flipped bits gives FMT_DEC's result whatever location B holds. -/
def Obligations.FmtDecRecoversDamagedWord : Prop :=
  ∀ (s : State) (d : BitVec 5) (e : BitVec 15), bitCount e ≤ 3 → s.fmtA = bchCodeword d ^^^ e ^^^ 0x5412 →
    ∃ t, exec .fmtDec s = .next t ∧ t.status.errCode = 0 ∧ t.fmtOut.valid = true ∧ t.fmtOut.loc = false ∧
      t.fmtOut.word = bchCodeword d ∧ t.fmtOut.eccLevel = d.extractLsb' 3 2 ∧ t.fmtOut.mask = d.extractLsb' 0 3

/-! ## Reed–Solomon blocks (45_reed_solomon.md) -/

/-- R241, R246: RS_DEC on admitted operands leaves the corrected block (or the attempted correction) in `BLK[0..bs)`,
ends with DATA_ECC iff the residual syndromes are nonzero, and changes nothing else but what R49 leaves unspecified;
other operands are refused with BAD_PARAM. -/
def Obligations.RsDecCorrectsBlockInPlace : Prop :=
  decode 0x00000006 = .ok .rsDec ∧
  ∀ s : State,
    (badParam .rsDec s → exec .rsDec s =
      .next { s with status := completedStatus s.status 9 s.status.nz, irqPend := true }) ∧
    (¬ badParam .rsDec s → ∃ t, exec .rsDec s = .next t ∧
      completedUpTo s t
        (if (correctBlock (s.bufPrefix .blk s.rsBs.toNat) s.rsBs.toNat s.rsDw.toNat).2 = true then 0 else 4) ∧
      (∀ i, i < s.rsBs.toNat → t.buf .blk i =
        (correctBlock (s.bufPrefix .blk s.rsBs.toNat) s.rsBs.toNat s.rsDw.toNat).1.getD i 0) ∧
      (∀ i, s.rsBs.toNat ≤ i → i < 256 → t.buf .blk i = s.buf .blk i) ∧
      sameBytesOutside [.s, .sigma, .blk] s t)

/-- R246, R247: a clean block stays byte for byte and succeeds, and after any success BLK holds a block whose
syndromes are all zero. -/
def Obligations.RsDecSuccessLeavesCodeword : Prop :=
  ∀ s t : State, ¬ badParam .rsDec s → exec .rsDec s = .next t →
    (anyNonzero (blkSyndromes (s.bufPrefix .blk s.rsBs.toNat) s.rsBs.toNat (s.rsBs.toNat - s.rsDw.toNat)) = false →
      t.status.errCode = 0 ∧ ∀ i, t.buf .blk i = s.buf .blk i) ∧
    (t.status.errCode = 0 ↔
      anyNonzero (blkSyndromes (t.bufPrefix .blk s.rsBs.toNat) s.rsBs.toNat (s.rsBs.toNat - s.rsDw.toNat)) = false)

/-- R247 for one error: a codeword with one changed byte, anywhere in the block and by any amount, is restored when
there are at least two parity words. -/
def Obligations.SingleByteErrorIsCorrected : Prop :=
  ∀ (blk : List Byte) (bs dw p : Nat) (e : Byte),
    1 ≤ bs → bs ≤ 255 → dw + 2 ≤ bs → bs - dw ≤ 64 → blk.length = bs → p < bs →
    anyNonzero (blkSyndromes blk bs (bs - dw)) = false →
    correctBlock (blk.set p (blk.getD p 0 ^^^ e)) bs dw = (blk, true)

/-! ## De-interleaving (46_deinterleave.md) -/

/-- R261: DEINT when every gathered block is corrected: the data words of block `k` stand in DATA after those of the
blocks before it, with the counts of R262 in the result registers; nothing else changes but what is unspecified. -/
def Obligations.DeintConcatenatesBlocks : Prop :=
  ∀ s : State, ¬ badParam .deint s →
    (∀ k, k < blockCount s.totalWords s.bs s.ns →
      (deintBlock (s.buf .raw) s.totalWords s.bs s.dw s.ns k).2 = true) →
    ∃ t, exec .deint s = .next t ∧
      completedUpTo
        { s with
          dataBits := BitVec.ofNat 17 (8 * parityOffset s.totalWords s.bs s.dw s.ns)
          blockIdx := BitVec.ofNat 14 (blockCount s.totalWords s.bs s.ns)
          deintInfo :=
            { lb := BitVec.ofNat 14 (longBlocks s.totalWords s.bs s.ns)
              bc := BitVec.ofNat 14 (blockCount s.totalWords s.bs s.ns) } } t 0 ∧
      (∀ k j, k < blockCount s.totalWords s.bs s.ns → j < dataWordsOf s.dw s.ns k →
        t.buf .data (s.dw * k + (k - s.ns) + j) =
          (deintBlock (s.buf .raw) s.totalWords s.bs s.dw s.ns k).1.getD j 0) ∧
      sameBytesOutside [.s, .sigma, .data] s t

/-- R261: DEINT when block `k` is the first that fails: DATA_ECC, no valid bits, the block's index, this run's counts. -/
def Obligations.DeintReportsFirstFailingBlock : Prop :=
  ∀ (s : State) (k : Nat), ¬ badParam .deint s →
    k < blockCount s.totalWords s.bs s.ns →
    (deintBlock (s.buf .raw) s.totalWords s.bs s.dw s.ns k).2 = false →
    (∀ j, j < k → (deintBlock (s.buf .raw) s.totalWords s.bs s.dw s.ns j).2 = true) →
    ∃ t, exec .deint s = .next t ∧
      completedUpTo
        { s with
          dataBits := 0
          blockIdx := BitVec.ofNat 14 k
          deintInfo :=
            { lb := BitVec.ofNat 14 (longBlocks s.totalWords s.bs s.ns)
              bc := BitVec.ofNat 14 (blockCount s.totalWords s.bs s.ns) } } t 4 ∧
      sameBytesOutside [.s, .sigma, .data] s t

/-- R261, R264: on a stream whose gathered blocks are all codewords, DATA holds the data words read round-robin. -/
def Obligations.DeintCopiesCleanStream : Prop :=
  ∀ s : State, ¬ badParam .deint s →
    (∀ k, k < blockCount s.totalWords s.bs s.ns →
      anyNonzero
        (blkSyndromes
          (gather (s.buf .raw) (blockCount s.totalWords s.bs s.ns) (parityOffset s.totalWords s.bs s.dw s.ns)
            (dataWordsOf s.dw s.ns k) (s.bs - s.dw) k)
          (blockSizeOf s.bs s.ns k) (s.bs - s.dw)) = false) →
    ∃ t, exec .deint s = .next t ∧ t.status.errCode = 0 ∧
      t.dataBits.toNat = 8 * parityOffset s.totalWords s.bs s.dw s.ns ∧
      (∀ k j, k < blockCount s.totalWords s.bs s.ns → j < dataWordsOf s.dw s.ns k →
        t.buf .data (s.dw * k + (k - s.ns) + j) = s.buf .raw (j * blockCount s.totalWords s.bs s.ns + k))

/-- R263: for admitted operands every gathered index is below `total`, and the counts fit their registers. -/
def Obligations.DeintStaysInsideStream : Prop :=
  ∀ s : State, ¬ badParam .deint s →
    (∀ k j, k < blockCount s.totalWords s.bs s.ns → j < dataWordsOf s.dw s.ns k →
      j * blockCount s.totalWords s.bs s.ns + k < s.totalWords) ∧
    (∀ k j, k < blockCount s.totalWords s.bs s.ns → j < s.bs - s.dw →
      parityOffset s.totalWords s.bs s.dw s.ns + j * blockCount s.totalWords s.bs s.ns + k < s.totalWords) ∧
    s.ns * s.dw + longBlocks s.totalWords s.bs s.ns * (s.dw + 1) = parityOffset s.totalWords s.bs s.dw s.ns ∧
    parityOffset s.totalWords s.bs s.dw s.ns ≤ s.totalWords ∧ s.totalWords ≤ 8896 ∧
    blockCount s.totalWords s.bs s.ns ≤ 4703 ∧ 8 * parityOffset s.totalWords s.bs s.dw s.ns ≤ 71168

/-- R48, R263: DEINT's results depend on its four operand registers and `RAW[0..total)` alone. -/
def Obligations.DeintDependsOnOperandsOnly : Prop :=
  ∀ s₁ s₂ t₁ t₂ : State, ¬ badParam .deint s₁ →
    s₁.total = s₂.total → s₁.rsBs = s₂.rsBs → s₁.rsDw = s₂.rsDw → s₁.rsNs = s₂.rsNs →
    (∀ i, i < s₁.total.toNat → s₁.buf .raw i = s₂.buf .raw i) →
    exec .deint s₁ = .next t₁ → exec .deint s₂ = .next t₂ →
    t₁.status.errCode = t₂.status.errCode ∧ t₁.dataBits = t₂.dataBits ∧ t₁.blockIdx = t₂.blockIdx ∧
      t₁.deintInfo = t₂.deintInfo ∧ ∀ i, 8 * i < t₁.dataBits.toNat → t₁.buf .data i = t₂.buf .data i

/-! ## The port (10_state.md, 20_memory.md) -/

/-- R81: the address map. -/
def Obligations.MappedOffsetsAreTheMap : Prop :=
  ∀ off : BitVec 16, (targetAt off.toNat).isSome = true ↔ mappedOffset off.toNat

/-- R83 to R85: a narrow, misaligned, partial or unmapped access answers a bus error and changes no state; a read so
answered returns 0. -/
def Obligations.IllegalAccessAnswersBusError : Prop :=
  Answer.busError.value = 0 ∧
  ∀ (s : State) (width : Width) (off : BitVec 16), s.resetLine = false →
    (width ≠ .w32 ∨ off.toNat % 4 ≠ 0 ∨ ¬ mappedOffset off.toNat →
      hostEvent (.access (.read width off)) s = .next { s with answers := .busError :: s.answers }) ∧
    (∀ lanes v, width ≠ .w32 ∨ off.toNat % 4 ≠ 0 ∨ ¬ mappedOffset off.toNat ∨ lanes ≠ 0xF →
      hostEvent (.access (.write width lanes off v)) s = .next { s with answers := .busError :: s.answers })

/-- R86: a buffer word reads as its four bytes, little-endian; a word written is there in that order, reads back, and
no other byte changes. -/
def Obligations.BufferWordsAreLittleEndian : Prop :=
  ∀ (s : State) (off : BitVec 16), s.status.busy = false → s.resetLine = false →
    off.toNat % 4 = 0 → 0x100 ≤ off.toNat → mappedOffset off.toNat →
    (∃ w, hostEvent (.access (.read .w32 off)) s = .next { s with answers := .data w :: s.answers } ∧
      ∀ k, k < 4 → w.extractLsb' (8 * k) 8 = s.byteAt (off.toNat + k)) ∧
    (∀ v : Word, ∃ mem t, t = ({ s with mem := mem, answers := .written :: s.answers } : State) ∧
      hostEvent (.access (.write .w32 0xF off v)) s = .next t ∧
      (∀ k, k < 4 → t.byteAt (off.toNat + k) = v.extractLsb' (8 * k) 8) ∧
      (∀ a, a < off.toNat ∨ off.toNat + 4 ≤ a → t.byteAt a = s.byteAt a) ∧
      hostEvent (.access (.read .w32 off)) t = .next { t with answers := .data v :: t.answers })

/-- R87: "No read has a side effect": only the answer, and the model's count of free draws (log 1). -/
def Obligations.ReadsHaveNoSideEffect : Prop :=
  ∀ (s t : State) (width : Width) (off : BitVec 16),
    hostEvent (.access (.read width off)) s = .next t →
      ∃ a draws, t = { s with answers := a :: s.answers, draws := draws }

/-- R88: while busy the first five registers read as they are. -/
def Obligations.BusyReadsOfControlRegistersAreExact : Prop :=
  ∀ s : State, s.status.busy = true → s.resetLine = false →
    hostEvent (.access (.read .w32 0x000)) s = .next { s with answers := .data 0x51524331 :: s.answers } ∧
    hostEvent (.access (.read .w32 0x004)) s = .next { s with answers := .data s.cmd :: s.answers } ∧
    hostEvent (.access (.read .w32 0x008)) s = .next { s with answers := .data s.status.toWord :: s.answers } ∧
    hostEvent (.access (.read .w32 0x00C)) s =
      .next { s with answers := .data (if s.irqEn then 1 else 0) :: s.answers } ∧
    hostEvent (.access (.read .w32 0x010)) s =
      .next { s with answers := .data (if s.irqPend then 1 else 0) :: s.answers }

/-- R84, R32 to R54: what an idle read of each register's offset answers, as a number: its fields at their bits and the
reserved bits 0. Nothing else changes. -/
def Obligations.IdleReadsReturnTheRegister : Prop :=
  ∀ (s : State) (off : BitVec 16) (value : Nat), s.status.busy = false → s.resetLine = false →
    (off, value) ∈
      [(0x000, 0x51524331),
       (0x004, s.cmd.toNat),
       (0x008, s.status.busy.toNat + 2 * s.status.done.toNat + 4 * s.status.err.toNat + 8 * s.status.nz.toNat
         + 16 * s.status.werr.toNat + 256 * s.status.errCode.toNat),
       (0x00C, s.irqEn.toNat),
       (0x010, s.irqPend.toNat),
       (0x014, s.opa.toNat),
       (0x018, s.opb.toNat),
       (0x01C, s.result.toNat),
       (0x020, s.fmtA.toNat),
       (0x024, s.fmtB.toNat),
       (0x028, s.fmtOut.word.toNat + 65536 * s.fmtOut.eccLevel.toNat + 1048576 * s.fmtOut.mask.toNat
         + 16777216 * s.fmtOut.loc.toNat + 2147483648 * s.fmtOut.valid.toNat),
       (0x02C, s.synN.toNat),
       (0x030, s.bmL.toNat),
       (0x034, s.rsBs.toNat),
       (0x038, s.rsDw.toNat),
       (0x03C, s.rsNs.toNat),
       (0x040, s.total.toNat),
       (0x044, s.dataBits.toNat),
       (0x048, s.blockIdx.toNat),
       (0x04C, s.deintInfo.lb.toNat + 65536 * s.deintInfo.bc.toNat)] →
    ∃ w : Word, w.toNat = value ∧
      hostEvent (.access (.read .w32 off)) s = .next { s with answers := .data w :: s.answers }

/-- R35, R45, R54: the fields of STATUS, FMT_OUT and DEINT_INFO stand at their bits and the reserved bits are 0. -/
def Obligations.PackedRegisterLayout : Prop :=
  ∀ s : State,
    (s.readReg .status).toNat =
      s.status.busy.toNat + 2 * s.status.done.toNat + 4 * s.status.err.toNat + 8 * s.status.nz.toNat
        + 16 * s.status.werr.toNat + 256 * s.status.errCode.toNat ∧
    (s.readReg .fmtOut).toNat =
      s.fmtOut.word.toNat + 65536 * s.fmtOut.eccLevel.toNat + 1048576 * s.fmtOut.mask.toNat
        + 16777216 * s.fmtOut.loc.toNat + 2147483648 * s.fmtOut.valid.toNat ∧
    (s.readReg .deintInfo).toNat = s.deintInfo.lb.toNat + 65536 * s.deintInfo.bc.toNat

/-- R36, R38, R40, R46, R50, R51: what an idle write stores in each read-write register; R35, R37: the W1C bits it
clears in STATUS and IRQ_PEND; R32 for the read-only registers: nothing. A write to CMD is LaunchWritesExactly. -/
def Obligations.IdleRegisterWrites : Prop :=
  ∀ (s : State) (v : Word), s.status.busy = false → s.resetLine = false →
    ∀ t, t = ({ s with answers := .written :: s.answers } : State) →
    (hostEvent (.access (.write .w32 0xF 0x008 v)) s =
       .next { t with status := { t.status with werr := t.status.werr && !v.getLsbD 4 } } ∧
     hostEvent (.access (.write .w32 0xF 0x010 v)) s = .next { t with irqPend := t.irqPend && !v.getLsbD 0 }) ∧
    (hostEvent (.access (.write .w32 0xF 0x00C v)) s = .next { t with irqEn := v.getLsbD 0 } ∧
     hostEvent (.access (.write .w32 0xF 0x014 v)) s = .next { t with opa := v.extractLsb' 0 8 } ∧
     hostEvent (.access (.write .w32 0xF 0x018 v)) s = .next { t with opb := v.extractLsb' 0 8 } ∧
     hostEvent (.access (.write .w32 0xF 0x020 v)) s = .next { t with fmtA := v.extractLsb' 0 15 } ∧
     hostEvent (.access (.write .w32 0xF 0x024 v)) s = .next { t with fmtB := v.extractLsb' 0 15 } ∧
     hostEvent (.access (.write .w32 0xF 0x02C v)) s = .next { t with synN := v.extractLsb' 0 7 } ∧
     hostEvent (.access (.write .w32 0xF 0x034 v)) s = .next { t with rsBs := v.extractLsb' 0 8 } ∧
     hostEvent (.access (.write .w32 0xF 0x038 v)) s = .next { t with rsDw := v.extractLsb' 0 8 } ∧
     hostEvent (.access (.write .w32 0xF 0x03C v)) s = .next { t with rsNs := v.extractLsb' 0 8 } ∧
     hostEvent (.access (.write .w32 0xF 0x040 v)) s = .next { t with total := v.extractLsb' 0 14 }) ∧
    (∀ off : BitVec 16, off ∈ [0x000, 0x01C, 0x028, 0x030, 0x044, 0x048, 0x04C] →
      hostEvent (.access (.write .w32 0xF off v)) s = .next t)

/-! ## Interrupt, reset, errors, instances (60_exceptions.md, 70_reset_and_hazards.md) -/

/-- R310: the interrupt output, what sets and clears the pending bit, and the enable. Every completion is that of a
word `w`, legal or not. -/
def Obligations.InterruptFollowsPendingAndEnable : Prop :=
  ∀ s : State,
    s.irq = (s.irqPend && s.irqEn) ∧
    (∀ w, ∃ t, execute w s = .next t ∧ t.irqPend = true ∧ t.irqEn = s.irqEn) ∧
    (∀ v, s.resetLine = false → ∃ t, hostEvent (.access (.write .w32 0xF 0x010 v)) s = .next t ∧
      t.irqPend = (s.irqPend && !v.getLsbD 0) ∧ t.irqEn = s.irqEn) ∧
    (∀ v, s.resetLine = false → ∃ t, hostEvent (.access (.write .w32 0xF 0x00C v)) s = .next t ∧
      t.irqEn = v.getLsbD 0 ∧ t.irqPend = s.irqPend) ∧
    (∀ w, (s.launch w).irqPend = s.irqPend) ∧ State.reset.irq = false

/-- R58: every register's reset value as the host reads it, the engine idle, the interrupt output low. -/
def Obligations.ResetRegisterValues : Prop :=
  State.reset.readReg .id = 0x51524331 ∧
  (∀ r : Reg, r ≠ .id → State.reset.readReg r = 0) ∧
  State.reset.status.busy = false ∧ State.reset.irq = false ∧ State.reset.mem = []

/-- R330: asserting the reset input gives every register its reset value and discards a command in flight; so does
its deassertion. The host's inputs and answers are the model's and stay (log 7). -/
def Obligations.ResetInputDiscardsCommand : Prop :=
  ∀ (s : State) (b : Bool), b = true ∨ s.resetLine = true →
    ∃ t, hostEvent (.resetLine b) s = .next t ∧ (∀ r : Reg, t.readReg r = State.reset.readReg r) ∧
      t.status.busy = false ∧ t.irq = false ∧ t.mem = [] ∧ t.resetLine = b ∧
      t.inputs = s.inputs ∧ t.answers = s.answers

/-- R303: an error stops nothing: after the completion of any word, with any code (ILLEGAL_CMD's too), the next write
to CMD launches and clears ERR and ERRCODE. -/
def Obligations.ErrorsDoNotStopTheEngine : Prop :=
  ∀ (w v : Word) (s : State), s.resetLine = false →
    ∃ t u, execute w s = .next t ∧ hostEvent (.access (.write .w32 0xF 0x004 v)) t = .next u ∧
      u.cmd = v ∧ u.status.busy = true ∧ u.status.done = false ∧ u.status.err = false ∧ u.status.errCode = 0 ∧
      u.status.werr = t.status.werr

/-- R303, R311: no step is refused, and the only stop is a host access that arrives while the reset input is
asserted, which R330 places outside the spec (the model's choice, log 7). -/
def Obligations.OnlyStopIsAccessDuringReset : Prop :=
  ∀ s : State,
    (∀ r, step s ≠ .refused r) ∧
    (∀ r, step s = .fault r ↔
      r = .accessDuringReset ∧ s.engineTurn = false ∧ s.resetLine = true ∧
        ∃ x xs a, s.inputs = x :: xs ∧ x.event = .access a)

/-- R320: steps of different instances do not touch each other and commute. Where a step's result is unspecified, that
both orders end alike rests on the model's choice that equal draws give equal values (log 1). -/
def Obligations.InstancesAreIndependent : Prop :=
  ∀ (p q q' : Platform) (j k : Nat), j ≠ k → p.stepAt j = .next q → p.stepAt k = .next q' →
    q[k]? = p[k]? ∧ ∃ r, q.stepAt k = .next r ∧ q'.stepAt j = .next r

/-! ## The whole machine -/

/-- The reset state meets the invariant. -/
def Obligations.InvAtReset : Prop := State.reset.Inv

/-- Every step keeps the invariant: canonical memory inside the buffers, the codes of R300, ERR and DONE as R35 says,
FMT_OUT a codeword's fields (R45), the counts of R263, reset values while the reset input is asserted (R330). -/
def Obligations.StepKeepsInv : Prop :=
  ∀ s t : State, s.Inv → step s = .next t → t.Inv

/-- R31, R49, R114: what each command leaves alone: every operand register, RAW, the control registers, and every
result that is not its own. -/
def Obligations.CommandsWriteOnlyTheirResults : Prop :=
  ∀ (i : Instr) (s t : State), exec i s = .next t →
    (t.cmd = s.cmd ∧ t.irqEn = s.irqEn ∧ t.opa = s.opa ∧ t.opb = s.opb ∧ t.fmtA = s.fmtA ∧ t.fmtB = s.fmtB ∧
      t.synN = s.synN ∧ t.rsBs = s.rsBs ∧ t.rsDw = s.rsDw ∧ t.rsNs = s.rsNs ∧ t.total = s.total ∧
      t.status.werr = s.status.werr ∧ t.resetLine = s.resetLine ∧ t.inputs = s.inputs ∧ t.answers = s.answers) ∧
    (∀ k, k < 8896 → t.buf .raw k = s.buf .raw k) ∧
    (i ≠ .gf16Mul → i ≠ .gf256Mul → t.result = s.result) ∧
    (i ≠ .fmtDec → t.fmtOut = s.fmtOut) ∧
    (i ≠ .rsDec → ∀ k, k < 256 → t.buf .blk k = s.buf .blk k) ∧
    (i ≠ .deint → t.dataBits = s.dataBits ∧ t.blockIdx = s.blockIdx ∧ t.deintInfo = s.deintInfo ∧
      ∀ k, k < 8896 → t.buf .data k = s.buf .data k) ∧
    (i ≠ .synd16 → i ≠ .synd256 → i ≠ .fmtDec → i ≠ .rsDec → i ≠ .deint →
      t.status.nz = s.status.nz ∧ ∀ k, k < 64 → t.buf .s k = s.buf .s k) ∧
    (i ≠ .bm16 → i ≠ .bm256 → i ≠ .fmtDec → i ≠ .rsDec → i ≠ .deint →
      t.bmL = s.bmL ∧ ∀ k, k < 64 → t.buf .sigma k = s.buf .sigma k)

/-- R34, R141, R142: CMD changes only by an accepted launch, or by reset. -/
def Obligations.CmdChangesOnlyByLaunchOrReset : Prop :=
  ∀ s t : State, step s = .next t → t.cmd ≠ s.cmd →
    s.engineTurn = false ∧ ∃ x xs, s.inputs = x :: xs ∧
      ((∃ w, x.event = .access (.write .w32 0xF 0x004 w) ∧ s.status.busy = false ∧ t.cmd = w ∧
          t.status.busy = true) ∨
        ∃ b, x.event = .resetLine b)

/-- R35: WERR is sticky: only a host write of 1 to bit 4 of STATUS, or reset, clears it. -/
def Obligations.WerrIsSticky : Prop :=
  ∀ s t : State, step s = .next t → s.status.werr = true → t.status.werr = false →
    s.engineTurn = false ∧ ∃ x xs, s.inputs = x :: xs ∧
      ((∃ v, x.event = .access (.write .w32 0xF 0x008 v) ∧ v.getLsbD 4 = true) ∨ ∃ b, x.event = .resetLine b)

/-- R142: a write dropped while a command is in flight changes nothing of what the command does. For the results R49
and R261 leave unspecified (NZ, BM_L, S, SIGMA, DATA) the equality of the two runs is the model's choice: equal draws
give equal values (log 1). -/
def Obligations.DroppedWriteDoesNotTouchTheCommand : Prop :=
  ∀ (i : Instr) (s t u : State) (off : BitVec 16) (v : Word), s.status.busy = true → s.resetLine = false →
    off.toNat % 4 = 0 → mappedOffset off.toNat → off ≠ 0x008 → off ≠ 0x00C → off ≠ 0x010 →
    hostEvent (.access (.write .w32 0xF off v)) s = .next t → exec i s = .next u →
    exec i t =
      .next { u with status := { u.status with werr := true }, answers := .written :: u.answers }

/-- R345, R346: a launch followed by `wait` ends in the same state, answers apart, however often the host polls before
the completion; it ends idle with DONE set, and the last read shows that STATUS. `cmd` and `wait` are R115's. For the
results R49 and R261 leave unspecified the equality of the two runs is the model's choice: equal draws give equal
values (log 1). -/
def Obligations.PollCountDoesNotMatter : Prop :=
  ∀ (s : State) (i : Instr) (polls : Nat),
    s.status.busy = false → s.resetLine = false → s.inputs = [] →
    ∃ t t₀ : State,
      Host.Core.run Sys2Proof.core (polls + 3) { s with inputs := cmd i :: wait polls } = .next t ∧
      Host.Core.run Sys2Proof.core 3 { s with inputs := cmd i :: wait 0 } = .next t₀ ∧
      ({ t with answers := [] } : State) = { t₀ with answers := [] } ∧
      t.status.busy = false ∧ t.status.done = true ∧ t.inputs = [] ∧
      t.answers.head? = some (.data t.status.toWord)
end

