-- ==== Sys2Proof/Laws/Memory.lean ====
section
/-! SUPPORT. The memory operations: what each address holds after a write or an erasure, and that both keep the canonical
form. -/

namespace Sys2Proof.Machine

@[simp] theorem Memory.get?_nil (a : Nat) : Memory.get? [] a = none := rfl

theorem Memory.get?_cons (c : Host.Cell) (m : Memory) (a : Nat) :
    Memory.get? (c :: m) a = if c.1 = a then some c.2 else Memory.get? m a := rfl

theorem Memory.get?_append (m n : Memory) (a : Nat) :
    Memory.get? (m ++ n) a = (Memory.get? m a).or (Memory.get? n a) := by
  induction m with
  | nil => simp
  | cons c m ih =>
    simp only [List.cons_append, Memory.get?_cons, ih]
    split <;> simp

theorem Memory.get?_filter (p : Nat → Bool) (m : Memory) (a : Nat) :
    Memory.get? (m.filter fun c => p c.1) a = if p a then Memory.get? m a else none := by
  induction m with
  | nil => simp
  | cons c m ih =>
    simp only [List.filter_cons]
    by_cases hc : c.1 = a
    · subst hc
      cases hp : p c.1 <;> simp [Memory.get?_cons, ih, hp]
    · cases hp : p c.1 <;> simp [Memory.get?_cons, ih, hc]

theorem get?_cellsFrom (vs : List Byte) (a x : Nat) :
    Memory.get? (cellsFrom a vs) x = if a ≤ x then vs[x - a]? else none := by
  induction vs generalizing a with
  | nil => simp [cellsFrom]
  | cons v vs ih =>
    rw [cellsFrom, Memory.get?_cons, ih]
    by_cases h : a = x
    · simp [h]
    · rw [if_neg h]
      by_cases h' : a ≤ x
      · obtain ⟨k, rfl⟩ : ∃ k, x = a + 1 + k := ⟨x - (a + 1), by omega⟩
        have e1 : a + 1 + k - a = k + 1 := by omega
        have e2 : a + 1 + k - (a + 1) = k := by omega
        have e3 : a ≤ a + 1 + k := by omega
        simp [e1, e2, e3]
      · have : ¬ a + 1 ≤ x := by omega
        simp [h', this]

/-- What a range write leaves at every address. -/
theorem Memory.get?_writeRange (m : Memory) (a : Nat) (vs : List Byte) (x : Nat) :
    (m.writeRange a vs).get? x =
      if a ≤ x ∧ x < a + vs.length then vs[x - a]? else m.get? x := by
  unfold Memory.writeRange
  rw [Memory.get?_append, Memory.get?_append,
    Memory.get?_filter (fun y => decide (y < a)) m x,
    Memory.get?_filter (fun y => decide (a + vs.length ≤ y)) m x, get?_cellsFrom]
  by_cases h1 : a ≤ x
  · by_cases h2 : x < a + vs.length
    · have h3 : ¬ x < a := by omega
      have h4 : ¬ a + vs.length ≤ x := by omega
      simp [h1, h2, h3, h4]
    · have h3 : ¬ x < a := by omega
      have h4 : a + vs.length ≤ x := by omega
      have h5 : vs[x - a]? = none := by
        rw [List.getElem?_eq_none_iff]; omega
      simp [h1, h2, h3, h4, h5]
  · have h3 : x < a := by omega
    have h4 : ¬ a + vs.length ≤ x := by omega
    simp [h1, h3, h4]

/-- What an erasure leaves at every address. -/
theorem Memory.get?_eraseRange (m : Memory) (a n x : Nat) :
    (m.eraseRange a n).get? x = if a ≤ x ∧ x < a + n then none else m.get? x := by
  unfold Memory.eraseRange
  rw [Memory.get?_filter (fun y => decide (y < a) || decide (a + n ≤ y)) m x]
  by_cases h1 : a ≤ x
  · by_cases h2 : x < a + n
    · have h3 : ¬ x < a := by omega
      have h4 : ¬ a + n ≤ x := by omega
      simp [h1, h2, h3, h4]
    · have h4 : a + n ≤ x := by omega
      simp [h1, h2, h4]
  · have h3 : x < a := by omega
    simp [h1, h3]

theorem mem_cellsFrom {vs : List Byte} {a : Nat} {c : Host.Cell} (h : c ∈ cellsFrom a vs) :
    a ≤ c.1 ∧ c.1 < a + vs.length := by
  induction vs generalizing a with
  | nil => simp [cellsFrom] at h
  | cons v vs ih =>
    rcases List.mem_cons.1 h with rfl | h
    · simp
    · have := ih h
      simp only [List.length_cons]
      omega

theorem pairwise_cellsFrom (vs : List Byte) (a : Nat) :
    (cellsFrom a vs).Pairwise (fun c d => c.1 < d.1) := by
  induction vs generalizing a with
  | nil => simp [cellsFrom]
  | cons v vs ih =>
    refine List.Pairwise.cons (fun d hd => ?_) (ih (a + 1))
    have := mem_cellsFrom hd
    simp only; omega

theorem Memory.wf_nil : Memory.wf [] := by simp [Memory.wf]

/-- A range write whose addresses all lie inside a buffer keeps the canonical form. -/
theorem Memory.wf_writeRange {m : Memory} (h : m.wf) (a : Nat) (vs : List Byte)
    (hin : ∀ x, a ≤ x → x < a + vs.length → (bufferAt x).isSome = true) : (m.writeRange a vs).wf := by
  refine ⟨?_, ?_⟩
  · unfold Memory.writeRange
    rw [List.pairwise_append, List.pairwise_append]
    refine ⟨⟨h.1.filter _, pairwise_cellsFrom vs a, ?_⟩, h.1.filter _, ?_⟩
    · intro c hc d hd
      have h1 := mem_cellsFrom hd
      have h2 := (List.mem_filter.1 hc).2
      simp only [decide_eq_true_eq] at h2
      omega
    · intro c hc d hd
      have h2 := (List.mem_filter.1 hd).2
      simp only [decide_eq_true_eq] at h2
      rcases List.mem_append.1 hc with hc | hc
      · have h3 := (List.mem_filter.1 hc).2
        simp only [decide_eq_true_eq] at h3
        omega
      · have h3 := mem_cellsFrom hc
        omega
  · intro c hc
    unfold Memory.writeRange at hc
    rcases List.mem_append.1 hc with hc | hc
    · rcases List.mem_append.1 hc with hc | hc
      · exact h.2 c (List.mem_filter.1 hc).1
      · exact hin _ (mem_cellsFrom hc).1 (mem_cellsFrom hc).2
    · exact h.2 c (List.mem_filter.1 hc).1

/-- An erasure keeps the canonical form. -/
theorem Memory.wf_eraseRange {m : Memory} (h : m.wf) (a n : Nat) : (m.eraseRange a n).wf :=
  ⟨h.1.filter _, fun c hc => h.2 c (List.mem_filter.1 hc).1⟩

/-- Two canonical memories that hold the same written bytes are the same list. -/
theorem Memory.ext_of_wf {m n : Memory} (hm : m.wf) (hn : n.wf)
    (h : ∀ a, m.get? a = n.get? a) : m = n := by
  have key : ∀ m : Memory, m.Pairwise (fun c d => c.1 < d.1) → ∀ c : Host.Cell,
      c ∈ m ↔ m.get? c.1 = some c.2 := by
    intro m hm c
    induction m with
    | nil => simp
    | cons d m ih =>
      have hd := List.pairwise_cons.1 hm
      rw [List.mem_cons, ih hd.2, Memory.get?_cons]
      by_cases he : d.1 = c.1
      · simp only [he, if_true, Option.some.injEq]
        constructor
        · rintro (rfl | hc)
          · rfl
          · exact absurd (hd.1 c ((ih hd.2).2 hc)) (by omega)
        · intro hv
          exact Or.inl (Prod.ext he.symm hv.symm)
      · simp only [he, if_false]
        constructor
        · rintro (rfl | hc)
          · exact absurd rfl he
          · exact hc
        · exact Or.inr
  have hperm : m.Perm n := by
    have ndm : m.Nodup := hm.1.imp (fun h => by rintro rfl; omega)
    have ndn : n.Nodup := hn.1.imp (fun h => by rintro rfl; omega)
    exact (List.perm_ext_iff_of_nodup ndm ndn).2 fun c => by
      rw [key m hm.1 c, key n hn.1 c, h]
  exact hperm.eq_of_pairwise (fun c d _ _ h1 h2 => by omega) hm.1 hn.1

end Sys2Proof.Machine
end

