-- ==== Sys2Proof/Laws/State.lean ====
section
/-! SUPPORT. What each update of the state does to each field: one lemma per field per update, true by definition. -/

namespace Sys2Proof.Machine

/-! `State.launch`. -/

@[simp] theorem State.launch_cmd (s : State) (w : Word) :
    (s.launch w).cmd = w := rfl
@[simp] theorem State.launch_status (s : State) (w : Word) :
    (s.launch w).status = s.status.launch := rfl
@[simp] theorem State.launch_irqEn (s : State) (w : Word) :
    (s.launch w).irqEn = s.irqEn := rfl
@[simp] theorem State.launch_irqPend (s : State) (w : Word) :
    (s.launch w).irqPend = s.irqPend := rfl
@[simp] theorem State.launch_opa (s : State) (w : Word) :
    (s.launch w).opa = s.opa := rfl
@[simp] theorem State.launch_opb (s : State) (w : Word) :
    (s.launch w).opb = s.opb := rfl
@[simp] theorem State.launch_result (s : State) (w : Word) :
    (s.launch w).result = s.result := rfl
@[simp] theorem State.launch_fmtA (s : State) (w : Word) :
    (s.launch w).fmtA = s.fmtA := rfl
@[simp] theorem State.launch_fmtB (s : State) (w : Word) :
    (s.launch w).fmtB = s.fmtB := rfl
@[simp] theorem State.launch_fmtOut (s : State) (w : Word) :
    (s.launch w).fmtOut = s.fmtOut := rfl
@[simp] theorem State.launch_synN (s : State) (w : Word) :
    (s.launch w).synN = s.synN := rfl
@[simp] theorem State.launch_bmL (s : State) (w : Word) :
    (s.launch w).bmL = s.bmL := rfl
@[simp] theorem State.launch_rsBs (s : State) (w : Word) :
    (s.launch w).rsBs = s.rsBs := rfl
@[simp] theorem State.launch_rsDw (s : State) (w : Word) :
    (s.launch w).rsDw = s.rsDw := rfl
@[simp] theorem State.launch_rsNs (s : State) (w : Word) :
    (s.launch w).rsNs = s.rsNs := rfl
@[simp] theorem State.launch_total (s : State) (w : Word) :
    (s.launch w).total = s.total := rfl
@[simp] theorem State.launch_dataBits (s : State) (w : Word) :
    (s.launch w).dataBits = s.dataBits := rfl
@[simp] theorem State.launch_blockIdx (s : State) (w : Word) :
    (s.launch w).blockIdx = s.blockIdx := rfl
@[simp] theorem State.launch_deintInfo (s : State) (w : Word) :
    (s.launch w).deintInfo = s.deintInfo := rfl
@[simp] theorem State.launch_mem (s : State) (w : Word) :
    (s.launch w).mem = s.mem := rfl
@[simp] theorem State.launch_resetLine (s : State) (w : Word) :
    (s.launch w).resetLine = s.resetLine := rfl
@[simp] theorem State.launch_gens (s : State) (w : Word) :
    (s.launch w).gens = s.gens := rfl
@[simp] theorem State.launch_draws (s : State) (w : Word) :
    (s.launch w).draws = s.draws := rfl
@[simp] theorem State.launch_inputs (s : State) (w : Word) :
    (s.launch w).inputs = s.inputs := rfl
@[simp] theorem State.launch_answers (s : State) (w : Word) :
    (s.launch w).answers = s.answers := rfl

/-! `State.complete`. -/

@[simp] theorem State.complete_cmd (s : State) (code : ErrCode) :
    (s.complete code).cmd = s.cmd := rfl
@[simp] theorem State.complete_status (s : State) (code : ErrCode) :
    (s.complete code).status = s.status.complete code := rfl
@[simp] theorem State.complete_irqEn (s : State) (code : ErrCode) :
    (s.complete code).irqEn = s.irqEn := rfl
@[simp] theorem State.complete_irqPend (s : State) (code : ErrCode) :
    (s.complete code).irqPend = true := rfl
@[simp] theorem State.complete_opa (s : State) (code : ErrCode) :
    (s.complete code).opa = s.opa := rfl
@[simp] theorem State.complete_opb (s : State) (code : ErrCode) :
    (s.complete code).opb = s.opb := rfl
@[simp] theorem State.complete_result (s : State) (code : ErrCode) :
    (s.complete code).result = s.result := rfl
@[simp] theorem State.complete_fmtA (s : State) (code : ErrCode) :
    (s.complete code).fmtA = s.fmtA := rfl
@[simp] theorem State.complete_fmtB (s : State) (code : ErrCode) :
    (s.complete code).fmtB = s.fmtB := rfl
@[simp] theorem State.complete_fmtOut (s : State) (code : ErrCode) :
    (s.complete code).fmtOut = s.fmtOut := rfl
@[simp] theorem State.complete_synN (s : State) (code : ErrCode) :
    (s.complete code).synN = s.synN := rfl
@[simp] theorem State.complete_bmL (s : State) (code : ErrCode) :
    (s.complete code).bmL = s.bmL := rfl
@[simp] theorem State.complete_rsBs (s : State) (code : ErrCode) :
    (s.complete code).rsBs = s.rsBs := rfl
@[simp] theorem State.complete_rsDw (s : State) (code : ErrCode) :
    (s.complete code).rsDw = s.rsDw := rfl
@[simp] theorem State.complete_rsNs (s : State) (code : ErrCode) :
    (s.complete code).rsNs = s.rsNs := rfl
@[simp] theorem State.complete_total (s : State) (code : ErrCode) :
    (s.complete code).total = s.total := rfl
@[simp] theorem State.complete_dataBits (s : State) (code : ErrCode) :
    (s.complete code).dataBits = s.dataBits := rfl
@[simp] theorem State.complete_blockIdx (s : State) (code : ErrCode) :
    (s.complete code).blockIdx = s.blockIdx := rfl
@[simp] theorem State.complete_deintInfo (s : State) (code : ErrCode) :
    (s.complete code).deintInfo = s.deintInfo := rfl
@[simp] theorem State.complete_mem (s : State) (code : ErrCode) :
    (s.complete code).mem = s.mem := rfl
@[simp] theorem State.complete_resetLine (s : State) (code : ErrCode) :
    (s.complete code).resetLine = s.resetLine := rfl
@[simp] theorem State.complete_gens (s : State) (code : ErrCode) :
    (s.complete code).gens = s.gens := rfl
@[simp] theorem State.complete_draws (s : State) (code : ErrCode) :
    (s.complete code).draws = s.draws := rfl
@[simp] theorem State.complete_inputs (s : State) (code : ErrCode) :
    (s.complete code).inputs = s.inputs := rfl
@[simp] theorem State.complete_answers (s : State) (code : ErrCode) :
    (s.complete code).answers = s.answers := rfl

/-! `State.writeBuf`. -/

@[simp] theorem State.writeBuf_cmd (s : State) (b : Buf) (bytes : List Byte) :
    (s.writeBuf b bytes).cmd = s.cmd := rfl
@[simp] theorem State.writeBuf_status (s : State) (b : Buf) (bytes : List Byte) :
    (s.writeBuf b bytes).status = s.status := rfl
@[simp] theorem State.writeBuf_irqEn (s : State) (b : Buf) (bytes : List Byte) :
    (s.writeBuf b bytes).irqEn = s.irqEn := rfl
@[simp] theorem State.writeBuf_irqPend (s : State) (b : Buf) (bytes : List Byte) :
    (s.writeBuf b bytes).irqPend = s.irqPend := rfl
@[simp] theorem State.writeBuf_opa (s : State) (b : Buf) (bytes : List Byte) :
    (s.writeBuf b bytes).opa = s.opa := rfl
@[simp] theorem State.writeBuf_opb (s : State) (b : Buf) (bytes : List Byte) :
    (s.writeBuf b bytes).opb = s.opb := rfl
@[simp] theorem State.writeBuf_result (s : State) (b : Buf) (bytes : List Byte) :
    (s.writeBuf b bytes).result = s.result := rfl
@[simp] theorem State.writeBuf_fmtA (s : State) (b : Buf) (bytes : List Byte) :
    (s.writeBuf b bytes).fmtA = s.fmtA := rfl
@[simp] theorem State.writeBuf_fmtB (s : State) (b : Buf) (bytes : List Byte) :
    (s.writeBuf b bytes).fmtB = s.fmtB := rfl
@[simp] theorem State.writeBuf_fmtOut (s : State) (b : Buf) (bytes : List Byte) :
    (s.writeBuf b bytes).fmtOut = s.fmtOut := rfl
@[simp] theorem State.writeBuf_synN (s : State) (b : Buf) (bytes : List Byte) :
    (s.writeBuf b bytes).synN = s.synN := rfl
@[simp] theorem State.writeBuf_bmL (s : State) (b : Buf) (bytes : List Byte) :
    (s.writeBuf b bytes).bmL = s.bmL := rfl
@[simp] theorem State.writeBuf_rsBs (s : State) (b : Buf) (bytes : List Byte) :
    (s.writeBuf b bytes).rsBs = s.rsBs := rfl
@[simp] theorem State.writeBuf_rsDw (s : State) (b : Buf) (bytes : List Byte) :
    (s.writeBuf b bytes).rsDw = s.rsDw := rfl
@[simp] theorem State.writeBuf_rsNs (s : State) (b : Buf) (bytes : List Byte) :
    (s.writeBuf b bytes).rsNs = s.rsNs := rfl
@[simp] theorem State.writeBuf_total (s : State) (b : Buf) (bytes : List Byte) :
    (s.writeBuf b bytes).total = s.total := rfl
@[simp] theorem State.writeBuf_dataBits (s : State) (b : Buf) (bytes : List Byte) :
    (s.writeBuf b bytes).dataBits = s.dataBits := rfl
@[simp] theorem State.writeBuf_blockIdx (s : State) (b : Buf) (bytes : List Byte) :
    (s.writeBuf b bytes).blockIdx = s.blockIdx := rfl
@[simp] theorem State.writeBuf_deintInfo (s : State) (b : Buf) (bytes : List Byte) :
    (s.writeBuf b bytes).deintInfo = s.deintInfo := rfl
@[simp] theorem State.writeBuf_mem (s : State) (b : Buf) (bytes : List Byte) :
    (s.writeBuf b bytes).mem = s.mem.writeRange b.base bytes := rfl
@[simp] theorem State.writeBuf_resetLine (s : State) (b : Buf) (bytes : List Byte) :
    (s.writeBuf b bytes).resetLine = s.resetLine := rfl
@[simp] theorem State.writeBuf_gens (s : State) (b : Buf) (bytes : List Byte) :
    (s.writeBuf b bytes).gens = s.gens := rfl
@[simp] theorem State.writeBuf_draws (s : State) (b : Buf) (bytes : List Byte) :
    (s.writeBuf b bytes).draws = s.draws := rfl
@[simp] theorem State.writeBuf_inputs (s : State) (b : Buf) (bytes : List Byte) :
    (s.writeBuf b bytes).inputs = s.inputs := rfl
@[simp] theorem State.writeBuf_answers (s : State) (b : Buf) (bytes : List Byte) :
    (s.writeBuf b bytes).answers = s.answers := rfl

/-! `State.unspecifyBuf`. -/

@[simp] theorem State.unspecifyBuf_cmd (s : State) (b : Buf) :
    (s.unspecifyBuf b).cmd = s.cmd := rfl
@[simp] theorem State.unspecifyBuf_status (s : State) (b : Buf) :
    (s.unspecifyBuf b).status = s.status := rfl
@[simp] theorem State.unspecifyBuf_irqEn (s : State) (b : Buf) :
    (s.unspecifyBuf b).irqEn = s.irqEn := rfl
@[simp] theorem State.unspecifyBuf_irqPend (s : State) (b : Buf) :
    (s.unspecifyBuf b).irqPend = s.irqPend := rfl
@[simp] theorem State.unspecifyBuf_opa (s : State) (b : Buf) :
    (s.unspecifyBuf b).opa = s.opa := rfl
@[simp] theorem State.unspecifyBuf_opb (s : State) (b : Buf) :
    (s.unspecifyBuf b).opb = s.opb := rfl
@[simp] theorem State.unspecifyBuf_result (s : State) (b : Buf) :
    (s.unspecifyBuf b).result = s.result := rfl
@[simp] theorem State.unspecifyBuf_fmtA (s : State) (b : Buf) :
    (s.unspecifyBuf b).fmtA = s.fmtA := rfl
@[simp] theorem State.unspecifyBuf_fmtB (s : State) (b : Buf) :
    (s.unspecifyBuf b).fmtB = s.fmtB := rfl
@[simp] theorem State.unspecifyBuf_fmtOut (s : State) (b : Buf) :
    (s.unspecifyBuf b).fmtOut = s.fmtOut := rfl
@[simp] theorem State.unspecifyBuf_synN (s : State) (b : Buf) :
    (s.unspecifyBuf b).synN = s.synN := rfl
@[simp] theorem State.unspecifyBuf_bmL (s : State) (b : Buf) :
    (s.unspecifyBuf b).bmL = s.bmL := rfl
@[simp] theorem State.unspecifyBuf_rsBs (s : State) (b : Buf) :
    (s.unspecifyBuf b).rsBs = s.rsBs := rfl
@[simp] theorem State.unspecifyBuf_rsDw (s : State) (b : Buf) :
    (s.unspecifyBuf b).rsDw = s.rsDw := rfl
@[simp] theorem State.unspecifyBuf_rsNs (s : State) (b : Buf) :
    (s.unspecifyBuf b).rsNs = s.rsNs := rfl
@[simp] theorem State.unspecifyBuf_total (s : State) (b : Buf) :
    (s.unspecifyBuf b).total = s.total := rfl
@[simp] theorem State.unspecifyBuf_dataBits (s : State) (b : Buf) :
    (s.unspecifyBuf b).dataBits = s.dataBits := rfl
@[simp] theorem State.unspecifyBuf_blockIdx (s : State) (b : Buf) :
    (s.unspecifyBuf b).blockIdx = s.blockIdx := rfl
@[simp] theorem State.unspecifyBuf_deintInfo (s : State) (b : Buf) :
    (s.unspecifyBuf b).deintInfo = s.deintInfo := rfl
@[simp] theorem State.unspecifyBuf_mem (s : State) (b : Buf) :
    (s.unspecifyBuf b).mem = s.mem.eraseRange b.base b.size := rfl
@[simp] theorem State.unspecifyBuf_resetLine (s : State) (b : Buf) :
    (s.unspecifyBuf b).resetLine = s.resetLine := rfl
@[simp] theorem State.unspecifyBuf_gens (s : State) (b : Buf) :
    (s.unspecifyBuf b).gens = s.gens.set b s.draws := rfl
@[simp] theorem State.unspecifyBuf_draws (s : State) (b : Buf) :
    (s.unspecifyBuf b).draws = s.draws + 1 := rfl
@[simp] theorem State.unspecifyBuf_inputs (s : State) (b : Buf) :
    (s.unspecifyBuf b).inputs = s.inputs := rfl
@[simp] theorem State.unspecifyBuf_answers (s : State) (b : Buf) :
    (s.unspecifyBuf b).answers = s.answers := rfl

/-! `State.unspecifyIntermediates`. -/

@[simp] theorem State.unspecifyIntermediates_cmd (s : State) :
    (s.unspecifyIntermediates).cmd = s.cmd := rfl
@[simp] theorem State.unspecifyIntermediates_status (s : State) :
    (s.unspecifyIntermediates).status = s.status.setNz (Config.freeFlag s.draws) := rfl
@[simp] theorem State.unspecifyIntermediates_irqEn (s : State) :
    (s.unspecifyIntermediates).irqEn = s.irqEn := rfl
@[simp] theorem State.unspecifyIntermediates_irqPend (s : State) :
    (s.unspecifyIntermediates).irqPend = s.irqPend := rfl
@[simp] theorem State.unspecifyIntermediates_opa (s : State) :
    (s.unspecifyIntermediates).opa = s.opa := rfl
@[simp] theorem State.unspecifyIntermediates_opb (s : State) :
    (s.unspecifyIntermediates).opb = s.opb := rfl
@[simp] theorem State.unspecifyIntermediates_result (s : State) :
    (s.unspecifyIntermediates).result = s.result := rfl
@[simp] theorem State.unspecifyIntermediates_fmtA (s : State) :
    (s.unspecifyIntermediates).fmtA = s.fmtA := rfl
@[simp] theorem State.unspecifyIntermediates_fmtB (s : State) :
    (s.unspecifyIntermediates).fmtB = s.fmtB := rfl
@[simp] theorem State.unspecifyIntermediates_fmtOut (s : State) :
    (s.unspecifyIntermediates).fmtOut = s.fmtOut := rfl
@[simp] theorem State.unspecifyIntermediates_synN (s : State) :
    (s.unspecifyIntermediates).synN = s.synN := rfl
@[simp] theorem State.unspecifyIntermediates_bmL (s : State) :
    (s.unspecifyIntermediates).bmL = Config.freeLength s.draws := rfl
@[simp] theorem State.unspecifyIntermediates_rsBs (s : State) :
    (s.unspecifyIntermediates).rsBs = s.rsBs := rfl
@[simp] theorem State.unspecifyIntermediates_rsDw (s : State) :
    (s.unspecifyIntermediates).rsDw = s.rsDw := rfl
@[simp] theorem State.unspecifyIntermediates_rsNs (s : State) :
    (s.unspecifyIntermediates).rsNs = s.rsNs := rfl
@[simp] theorem State.unspecifyIntermediates_total (s : State) :
    (s.unspecifyIntermediates).total = s.total := rfl
@[simp] theorem State.unspecifyIntermediates_dataBits (s : State) :
    (s.unspecifyIntermediates).dataBits = s.dataBits := rfl
@[simp] theorem State.unspecifyIntermediates_blockIdx (s : State) :
    (s.unspecifyIntermediates).blockIdx = s.blockIdx := rfl
@[simp] theorem State.unspecifyIntermediates_deintInfo (s : State) :
    (s.unspecifyIntermediates).deintInfo = s.deintInfo := rfl
@[simp] theorem State.unspecifyIntermediates_mem (s : State) :
    (s.unspecifyIntermediates).mem = (s.mem.eraseRange Buf.s.base Buf.s.size).eraseRange Buf.sigma.base Buf.sigma.size := rfl
@[simp] theorem State.unspecifyIntermediates_resetLine (s : State) :
    (s.unspecifyIntermediates).resetLine = s.resetLine := rfl
@[simp] theorem State.unspecifyIntermediates_gens (s : State) :
    (s.unspecifyIntermediates).gens = (s.gens.set .s s.draws).set .sigma (s.draws + 1) := rfl
@[simp] theorem State.unspecifyIntermediates_draws (s : State) :
    (s.unspecifyIntermediates).draws = s.draws + 1 + 1 := rfl
@[simp] theorem State.unspecifyIntermediates_inputs (s : State) :
    (s.unspecifyIntermediates).inputs = s.inputs := rfl
@[simp] theorem State.unspecifyIntermediates_answers (s : State) :
    (s.unspecifyIntermediates).answers = s.answers := rfl

/-! `State.storeSyndromes`. -/

@[simp] theorem State.storeSyndromes_cmd (s : State) (syn : Poly) :
    (s.storeSyndromes syn).cmd = s.cmd := rfl
@[simp] theorem State.storeSyndromes_status (s : State) (syn : Poly) :
    (s.storeSyndromes syn).status = s.status.setNz (anyNonzero syn) := rfl
@[simp] theorem State.storeSyndromes_irqEn (s : State) (syn : Poly) :
    (s.storeSyndromes syn).irqEn = s.irqEn := rfl
@[simp] theorem State.storeSyndromes_irqPend (s : State) (syn : Poly) :
    (s.storeSyndromes syn).irqPend = s.irqPend := rfl
@[simp] theorem State.storeSyndromes_opa (s : State) (syn : Poly) :
    (s.storeSyndromes syn).opa = s.opa := rfl
@[simp] theorem State.storeSyndromes_opb (s : State) (syn : Poly) :
    (s.storeSyndromes syn).opb = s.opb := rfl
@[simp] theorem State.storeSyndromes_result (s : State) (syn : Poly) :
    (s.storeSyndromes syn).result = s.result := rfl
@[simp] theorem State.storeSyndromes_fmtA (s : State) (syn : Poly) :
    (s.storeSyndromes syn).fmtA = s.fmtA := rfl
@[simp] theorem State.storeSyndromes_fmtB (s : State) (syn : Poly) :
    (s.storeSyndromes syn).fmtB = s.fmtB := rfl
@[simp] theorem State.storeSyndromes_fmtOut (s : State) (syn : Poly) :
    (s.storeSyndromes syn).fmtOut = s.fmtOut := rfl
@[simp] theorem State.storeSyndromes_synN (s : State) (syn : Poly) :
    (s.storeSyndromes syn).synN = s.synN := rfl
@[simp] theorem State.storeSyndromes_bmL (s : State) (syn : Poly) :
    (s.storeSyndromes syn).bmL = s.bmL := rfl
@[simp] theorem State.storeSyndromes_rsBs (s : State) (syn : Poly) :
    (s.storeSyndromes syn).rsBs = s.rsBs := rfl
@[simp] theorem State.storeSyndromes_rsDw (s : State) (syn : Poly) :
    (s.storeSyndromes syn).rsDw = s.rsDw := rfl
@[simp] theorem State.storeSyndromes_rsNs (s : State) (syn : Poly) :
    (s.storeSyndromes syn).rsNs = s.rsNs := rfl
@[simp] theorem State.storeSyndromes_total (s : State) (syn : Poly) :
    (s.storeSyndromes syn).total = s.total := rfl
@[simp] theorem State.storeSyndromes_dataBits (s : State) (syn : Poly) :
    (s.storeSyndromes syn).dataBits = s.dataBits := rfl
@[simp] theorem State.storeSyndromes_blockIdx (s : State) (syn : Poly) :
    (s.storeSyndromes syn).blockIdx = s.blockIdx := rfl
@[simp] theorem State.storeSyndromes_deintInfo (s : State) (syn : Poly) :
    (s.storeSyndromes syn).deintInfo = s.deintInfo := rfl
@[simp] theorem State.storeSyndromes_mem (s : State) (syn : Poly) :
    (s.storeSyndromes syn).mem = s.mem.writeRange Buf.s.base syn := rfl
@[simp] theorem State.storeSyndromes_resetLine (s : State) (syn : Poly) :
    (s.storeSyndromes syn).resetLine = s.resetLine := rfl
@[simp] theorem State.storeSyndromes_gens (s : State) (syn : Poly) :
    (s.storeSyndromes syn).gens = s.gens := rfl
@[simp] theorem State.storeSyndromes_draws (s : State) (syn : Poly) :
    (s.storeSyndromes syn).draws = s.draws := rfl
@[simp] theorem State.storeSyndromes_inputs (s : State) (syn : Poly) :
    (s.storeSyndromes syn).inputs = s.inputs := rfl
@[simp] theorem State.storeSyndromes_answers (s : State) (syn : Poly) :
    (s.storeSyndromes syn).answers = s.answers := rfl

/-! `State.storeLocator`. -/

@[simp] theorem State.storeLocator_cmd (s : State) (r : BmState) :
    (s.storeLocator r).cmd = s.cmd := rfl
@[simp] theorem State.storeLocator_status (s : State) (r : BmState) :
    (s.storeLocator r).status = s.status := rfl
@[simp] theorem State.storeLocator_irqEn (s : State) (r : BmState) :
    (s.storeLocator r).irqEn = s.irqEn := rfl
@[simp] theorem State.storeLocator_irqPend (s : State) (r : BmState) :
    (s.storeLocator r).irqPend = s.irqPend := rfl
@[simp] theorem State.storeLocator_opa (s : State) (r : BmState) :
    (s.storeLocator r).opa = s.opa := rfl
@[simp] theorem State.storeLocator_opb (s : State) (r : BmState) :
    (s.storeLocator r).opb = s.opb := rfl
@[simp] theorem State.storeLocator_result (s : State) (r : BmState) :
    (s.storeLocator r).result = s.result := rfl
@[simp] theorem State.storeLocator_fmtA (s : State) (r : BmState) :
    (s.storeLocator r).fmtA = s.fmtA := rfl
@[simp] theorem State.storeLocator_fmtB (s : State) (r : BmState) :
    (s.storeLocator r).fmtB = s.fmtB := rfl
@[simp] theorem State.storeLocator_fmtOut (s : State) (r : BmState) :
    (s.storeLocator r).fmtOut = s.fmtOut := rfl
@[simp] theorem State.storeLocator_synN (s : State) (r : BmState) :
    (s.storeLocator r).synN = s.synN := rfl
@[simp] theorem State.storeLocator_bmL (s : State) (r : BmState) :
    (s.storeLocator r).bmL = BitVec.ofNat 7 r.L := rfl
@[simp] theorem State.storeLocator_rsBs (s : State) (r : BmState) :
    (s.storeLocator r).rsBs = s.rsBs := rfl
@[simp] theorem State.storeLocator_rsDw (s : State) (r : BmState) :
    (s.storeLocator r).rsDw = s.rsDw := rfl
@[simp] theorem State.storeLocator_rsNs (s : State) (r : BmState) :
    (s.storeLocator r).rsNs = s.rsNs := rfl
@[simp] theorem State.storeLocator_total (s : State) (r : BmState) :
    (s.storeLocator r).total = s.total := rfl
@[simp] theorem State.storeLocator_dataBits (s : State) (r : BmState) :
    (s.storeLocator r).dataBits = s.dataBits := rfl
@[simp] theorem State.storeLocator_blockIdx (s : State) (r : BmState) :
    (s.storeLocator r).blockIdx = s.blockIdx := rfl
@[simp] theorem State.storeLocator_deintInfo (s : State) (r : BmState) :
    (s.storeLocator r).deintInfo = s.deintInfo := rfl
@[simp] theorem State.storeLocator_mem (s : State) (r : BmState) :
    (s.storeLocator r).mem = s.mem.writeRange Buf.sigma.base r.C := rfl
@[simp] theorem State.storeLocator_resetLine (s : State) (r : BmState) :
    (s.storeLocator r).resetLine = s.resetLine := rfl
@[simp] theorem State.storeLocator_gens (s : State) (r : BmState) :
    (s.storeLocator r).gens = s.gens := rfl
@[simp] theorem State.storeLocator_draws (s : State) (r : BmState) :
    (s.storeLocator r).draws = s.draws := rfl
@[simp] theorem State.storeLocator_inputs (s : State) (r : BmState) :
    (s.storeLocator r).inputs = s.inputs := rfl
@[simp] theorem State.storeLocator_answers (s : State) (r : BmState) :
    (s.storeLocator r).answers = s.answers := rfl

/-! `State.answer`. -/

@[simp] theorem State.answer_cmd (r : Answer × State) :
    (State.answer r).cmd = r.2.cmd := rfl
@[simp] theorem State.answer_status (r : Answer × State) :
    (State.answer r).status = r.2.status := rfl
@[simp] theorem State.answer_irqEn (r : Answer × State) :
    (State.answer r).irqEn = r.2.irqEn := rfl
@[simp] theorem State.answer_irqPend (r : Answer × State) :
    (State.answer r).irqPend = r.2.irqPend := rfl
@[simp] theorem State.answer_opa (r : Answer × State) :
    (State.answer r).opa = r.2.opa := rfl
@[simp] theorem State.answer_opb (r : Answer × State) :
    (State.answer r).opb = r.2.opb := rfl
@[simp] theorem State.answer_result (r : Answer × State) :
    (State.answer r).result = r.2.result := rfl
@[simp] theorem State.answer_fmtA (r : Answer × State) :
    (State.answer r).fmtA = r.2.fmtA := rfl
@[simp] theorem State.answer_fmtB (r : Answer × State) :
    (State.answer r).fmtB = r.2.fmtB := rfl
@[simp] theorem State.answer_fmtOut (r : Answer × State) :
    (State.answer r).fmtOut = r.2.fmtOut := rfl
@[simp] theorem State.answer_synN (r : Answer × State) :
    (State.answer r).synN = r.2.synN := rfl
@[simp] theorem State.answer_bmL (r : Answer × State) :
    (State.answer r).bmL = r.2.bmL := rfl
@[simp] theorem State.answer_rsBs (r : Answer × State) :
    (State.answer r).rsBs = r.2.rsBs := rfl
@[simp] theorem State.answer_rsDw (r : Answer × State) :
    (State.answer r).rsDw = r.2.rsDw := rfl
@[simp] theorem State.answer_rsNs (r : Answer × State) :
    (State.answer r).rsNs = r.2.rsNs := rfl
@[simp] theorem State.answer_total (r : Answer × State) :
    (State.answer r).total = r.2.total := rfl
@[simp] theorem State.answer_dataBits (r : Answer × State) :
    (State.answer r).dataBits = r.2.dataBits := rfl
@[simp] theorem State.answer_blockIdx (r : Answer × State) :
    (State.answer r).blockIdx = r.2.blockIdx := rfl
@[simp] theorem State.answer_deintInfo (r : Answer × State) :
    (State.answer r).deintInfo = r.2.deintInfo := rfl
@[simp] theorem State.answer_mem (r : Answer × State) :
    (State.answer r).mem = r.2.mem := rfl
@[simp] theorem State.answer_resetLine (r : Answer × State) :
    (State.answer r).resetLine = r.2.resetLine := rfl
@[simp] theorem State.answer_gens (r : Answer × State) :
    (State.answer r).gens = r.2.gens := rfl
@[simp] theorem State.answer_draws (r : Answer × State) :
    (State.answer r).draws = r.2.draws := rfl
@[simp] theorem State.answer_inputs (r : Answer × State) :
    (State.answer r).inputs = r.2.inputs := rfl
@[simp] theorem State.answer_answers (r : Answer × State) :
    (State.answer r).answers = r.1 :: r.2.answers := rfl

/-! `State.placeCommand`. -/

@[simp] theorem State.placeCommand_cmd (s : State) (w : Word) :
    (s.placeCommand w).cmd = w := rfl
@[simp] theorem State.placeCommand_status (s : State) (w : Word) :
    (s.placeCommand w).status = s.status.launch := rfl
@[simp] theorem State.placeCommand_irqEn (s : State) (w : Word) :
    (s.placeCommand w).irqEn = s.irqEn := rfl
@[simp] theorem State.placeCommand_irqPend (s : State) (w : Word) :
    (s.placeCommand w).irqPend = s.irqPend := rfl
@[simp] theorem State.placeCommand_opa (s : State) (w : Word) :
    (s.placeCommand w).opa = s.opa := rfl
@[simp] theorem State.placeCommand_opb (s : State) (w : Word) :
    (s.placeCommand w).opb = s.opb := rfl
@[simp] theorem State.placeCommand_result (s : State) (w : Word) :
    (s.placeCommand w).result = s.result := rfl
@[simp] theorem State.placeCommand_fmtA (s : State) (w : Word) :
    (s.placeCommand w).fmtA = s.fmtA := rfl
@[simp] theorem State.placeCommand_fmtB (s : State) (w : Word) :
    (s.placeCommand w).fmtB = s.fmtB := rfl
@[simp] theorem State.placeCommand_fmtOut (s : State) (w : Word) :
    (s.placeCommand w).fmtOut = s.fmtOut := rfl
@[simp] theorem State.placeCommand_synN (s : State) (w : Word) :
    (s.placeCommand w).synN = s.synN := rfl
@[simp] theorem State.placeCommand_bmL (s : State) (w : Word) :
    (s.placeCommand w).bmL = s.bmL := rfl
@[simp] theorem State.placeCommand_rsBs (s : State) (w : Word) :
    (s.placeCommand w).rsBs = s.rsBs := rfl
@[simp] theorem State.placeCommand_rsDw (s : State) (w : Word) :
    (s.placeCommand w).rsDw = s.rsDw := rfl
@[simp] theorem State.placeCommand_rsNs (s : State) (w : Word) :
    (s.placeCommand w).rsNs = s.rsNs := rfl
@[simp] theorem State.placeCommand_total (s : State) (w : Word) :
    (s.placeCommand w).total = s.total := rfl
@[simp] theorem State.placeCommand_dataBits (s : State) (w : Word) :
    (s.placeCommand w).dataBits = s.dataBits := rfl
@[simp] theorem State.placeCommand_blockIdx (s : State) (w : Word) :
    (s.placeCommand w).blockIdx = s.blockIdx := rfl
@[simp] theorem State.placeCommand_deintInfo (s : State) (w : Word) :
    (s.placeCommand w).deintInfo = s.deintInfo := rfl
@[simp] theorem State.placeCommand_mem (s : State) (w : Word) :
    (s.placeCommand w).mem = s.mem := rfl
@[simp] theorem State.placeCommand_resetLine (s : State) (w : Word) :
    (s.placeCommand w).resetLine = s.resetLine := rfl
@[simp] theorem State.placeCommand_gens (s : State) (w : Word) :
    (s.placeCommand w).gens = s.gens := rfl
@[simp] theorem State.placeCommand_draws (s : State) (w : Word) :
    (s.placeCommand w).draws = s.draws := rfl
@[simp] theorem State.placeCommand_inputs (s : State) (w : Word) :
    (s.placeCommand w).inputs = inputsAfterCompletion s.inputs := rfl
@[simp] theorem State.placeCommand_answers (s : State) (w : Word) :
    (s.placeCommand w).answers = s.answers := rfl

/-! `Status.launch`. -/

@[simp] theorem Status.launch_busy (t : Status) :
    (t.launch).busy = true := rfl
@[simp] theorem Status.launch_done (t : Status) :
    (t.launch).done = false := rfl
@[simp] theorem Status.launch_err (t : Status) :
    (t.launch).err = false := rfl
@[simp] theorem Status.launch_nz (t : Status) :
    (t.launch).nz = t.nz := rfl
@[simp] theorem Status.launch_werr (t : Status) :
    (t.launch).werr = t.werr := rfl
@[simp] theorem Status.launch_errCode (t : Status) :
    (t.launch).errCode = 0 := rfl

/-! `Status.complete`. -/

@[simp] theorem Status.complete_busy (t : Status) (code : ErrCode) :
    (t.complete code).busy = false := rfl
@[simp] theorem Status.complete_done (t : Status) (code : ErrCode) :
    (t.complete code).done = true := rfl
@[simp] theorem Status.complete_err (t : Status) (code : ErrCode) :
    (t.complete code).err = (code.code != 0) := rfl
@[simp] theorem Status.complete_nz (t : Status) (code : ErrCode) :
    (t.complete code).nz = t.nz := rfl
@[simp] theorem Status.complete_werr (t : Status) (code : ErrCode) :
    (t.complete code).werr = t.werr := rfl
@[simp] theorem Status.complete_errCode (t : Status) (code : ErrCode) :
    (t.complete code).errCode = code.code := rfl

/-! `Status.setNz`. -/

@[simp] theorem Status.setNz_busy (t : Status) (nz : Bool) :
    (t.setNz nz).busy = t.busy := rfl
@[simp] theorem Status.setNz_done (t : Status) (nz : Bool) :
    (t.setNz nz).done = t.done := rfl
@[simp] theorem Status.setNz_err (t : Status) (nz : Bool) :
    (t.setNz nz).err = t.err := rfl
@[simp] theorem Status.setNz_nz (t : Status) (nz : Bool) :
    (t.setNz nz).nz = nz := rfl
@[simp] theorem Status.setNz_werr (t : Status) (nz : Bool) :
    (t.setNz nz).werr = t.werr := rfl
@[simp] theorem Status.setNz_errCode (t : Status) (nz : Bool) :
    (t.setNz nz).errCode = t.errCode := rfl

/-! `Status.dropWrite`. -/

@[simp] theorem Status.dropWrite_busy (t : Status) :
    (t.dropWrite).busy = t.busy := rfl
@[simp] theorem Status.dropWrite_done (t : Status) :
    (t.dropWrite).done = t.done := rfl
@[simp] theorem Status.dropWrite_err (t : Status) :
    (t.dropWrite).err = t.err := rfl
@[simp] theorem Status.dropWrite_nz (t : Status) :
    (t.dropWrite).nz = t.nz := rfl
@[simp] theorem Status.dropWrite_werr (t : Status) :
    (t.dropWrite).werr = true := rfl
@[simp] theorem Status.dropWrite_errCode (t : Status) :
    (t.dropWrite).errCode = t.errCode := rfl

/-! `Status.hostWrite`. -/

@[simp] theorem Status.hostWrite_busy (t : Status) (v : Word) :
    (t.hostWrite v).busy = t.busy := rfl
@[simp] theorem Status.hostWrite_done (t : Status) (v : Word) :
    (t.hostWrite v).done = t.done := rfl
@[simp] theorem Status.hostWrite_err (t : Status) (v : Word) :
    (t.hostWrite v).err = t.err := rfl
@[simp] theorem Status.hostWrite_nz (t : Status) (v : Word) :
    (t.hostWrite v).nz = t.nz := rfl
@[simp] theorem Status.hostWrite_werr (t : Status) (v : Word) :
    (t.hostWrite v).werr = (t.werr && !v.getLsbD 4) := rfl
@[simp] theorem Status.hostWrite_errCode (t : Status) (v : Word) :
    (t.hostWrite v).errCode = t.errCode := rfl

/-! Buffers' draws. -/

@[simp] theorem Gens.of_set (g : Gens) (b c : Buf) (n : Nat) :
    (g.set b n).of c = if b = c then n else g.of c := by
  cases b <;> cases c <;> rfl

/-! Reset. -/

@[simp] theorem State.resetTo_cmd (s : State) (b : Bool) : (s.resetTo b).cmd = 0 := rfl
@[simp] theorem State.resetTo_status (s : State) (b : Bool) : (s.resetTo b).status = State.reset.status := rfl
@[simp] theorem State.resetTo_irqPend (s : State) (b : Bool) : (s.resetTo b).irqPend = false := rfl
@[simp] theorem State.resetTo_mem (s : State) (b : Bool) : (s.resetTo b).mem = [] := rfl
@[simp] theorem State.resetTo_resetLine (s : State) (b : Bool) : (s.resetTo b).resetLine = b := rfl
@[simp] theorem State.resetTo_inputs (s : State) (b : Bool) : (s.resetTo b).inputs = s.inputs := rfl
@[simp] theorem State.resetTo_answers (s : State) (b : Bool) : (s.resetTo b).answers = s.answers := rfl
@[simp] theorem State.resetTo_draws (s : State) (b : Bool) : (s.resetTo b).draws = s.draws + 1 := rfl
@[simp] theorem State.resetTo_gens (s : State) (b : Bool) (c : Buf) : (s.resetTo b).gens.of c = s.draws := by
  cases c <;> rfl
@[simp] theorem State.reset_busy : State.reset.status.busy = false := rfl

end Sys2Proof.Machine
end

