-- ==== Sys2Proof/Laws/Buffers.lean ====
section
/-! SUPPORT. Buffer bytes: which buffer an address lies in, and what every address reads as after each shared operation. -/

namespace Sys2Proof.Machine

theorem Buf.holds_iff (b : Buf) (a : Nat) : b.holds a = true ↔ b.base ≤ a ∧ a < b.base + b.size := by
  simp [Buf.holds]

/-- The buffers do not overlap, so an address of a buffer lies in that buffer. -/
theorem bufferAt_eq_some_iff (a : Nat) (b : Buf) : bufferAt a = some b ↔ b.holds a = true := by
  constructor
  · intro h
    have h' : Buf.all.find? (fun c : Buf => c.holds a) = some b := h
    have := List.find?_some h'
    exact this
  · intro h
    have key : ∀ c : Buf, c ≠ b → c.holds a = false := by
      intro c hc
      cases hh : c.holds a with
      | false => rfl
      | true =>
        rw [Buf.holds_iff] at h hh
        cases b <;> cases c <;> simp only [Buf.base, Buf.size, ne_eq, not_true_eq_false] at h hh hc <;> omega
    unfold bufferAt Buf.all
    cases b <;> simp [key, h]

theorem bufferAt_base_add (b : Buf) {i : Nat} (h : i < b.size) : bufferAt (b.base + i) = some b := by
  rw [bufferAt_eq_some_iff, Buf.holds_iff]
  omega

/-- A byte depends on the memory and the draws alone. -/
theorem State.byteAt_congr {s t : State} (hm : t.mem = s.mem) (hg : t.gens = s.gens) (a : Nat) :
    t.byteAt a = s.byteAt a := by
  unfold State.byteAt State.unwritten
  rw [hm, hg]

@[simp] theorem State.byteAt_complete (s : State) (c : ErrCode) (a : Nat) : (s.complete c).byteAt a = s.byteAt a := rfl
@[simp] theorem State.byteAt_launch (s : State) (w : Word) (a : Nat) : (s.launch w).byteAt a = s.byteAt a := rfl

/-- What every address reads as after a range write. -/
theorem State.byteAt_writeRange (s : State) (a : Nat) (vs : List Byte) (x : Nat) :
    ({ s with mem := s.mem.writeRange a vs } : State).byteAt x =
      if a ≤ x ∧ x < a + vs.length then vs.getD (x - a) 0 else s.byteAt x := by
  unfold State.byteAt State.unwritten
  simp only [Memory.get?_writeRange]
  split
  · next h =>
    have h' : x - a < vs.length := by omega
    rw [List.getElem?_eq_getElem h', List.getD_eq_getElem _ _ h']
    rfl
  · rfl

/-- What every address reads as after a write of a buffer from its start. -/
theorem State.byteAt_writeBuf (s : State) (b : Buf) (vs : List Byte) (x : Nat) :
    (s.writeBuf b vs).byteAt x =
      if b.base ≤ x ∧ x < b.base + vs.length then vs.getD (x - b.base) 0 else s.byteAt x :=
  s.byteAt_writeRange b.base vs x

/-- Making one buffer unspecified leaves every byte outside it. -/
theorem State.byteAt_unspecifyBuf (s : State) (b : Buf) {x : Nat} (h : b.holds x = false) :
    (s.unspecifyBuf b).byteAt x = s.byteAt x := by
  have hb : bufferAt x ≠ some b := by
    rw [Ne, bufferAt_eq_some_iff, h]; simp
  have hx : ¬ (b.base ≤ x ∧ x < b.base + b.size) := by
    rw [← Buf.holds_iff, h]; simp
  unfold State.byteAt State.unwritten
  simp only [State.unspecifyBuf_mem, State.unspecifyBuf_gens, Memory.get?_eraseRange, if_neg hx]
  cases hc : bufferAt x with
  | none => rfl
  | some c =>
    have : b ≠ c := by rintro rfl; exact hb hc
    simp [this]

/-- What R49 makes unspecified leaves every byte outside S and SIGMA. -/
theorem State.byteAt_unspecifyIntermediates (s : State) {x : Nat} (h1 : Buf.s.holds x = false)
    (h2 : Buf.sigma.holds x = false) : s.unspecifyIntermediates.byteAt x = s.byteAt x := by
  have : s.unspecifyIntermediates.byteAt x = ((s.unspecifyBuf .s).unspecifyBuf .sigma).byteAt x := rfl
  rw [this, State.byteAt_unspecifyBuf _ _ h2, State.byteAt_unspecifyBuf _ _ h1]

@[simp] theorem State.length_bufPrefix (s : State) (b : Buf) (n : Nat) : (s.bufPrefix b n).length = n := by
  simp [State.bufPrefix]

theorem State.getD_bufPrefix (s : State) (b : Buf) {n i : Nat} (h : i < n) :
    (s.bufPrefix b n).getD i 0 = s.buf b i := by
  simp [State.bufPrefix, h]

end Sys2Proof.Machine
end

