-- ==== Sys2Proof/Laws/Poly.lean ====
section
/-! SUPPORT. Polynomials and blocks: coefficients and lengths of everything the units build. -/

namespace Sys2Proof.Machine

@[simp] theorem Poly.length_tabulate (f : Nat → Byte) : (Poly.tabulate f).length = 64 := by
  simp [Poly.tabulate]

theorem Poly.coeff_tabulate (f : Nat → Byte) (i : Nat) :
    (Poly.tabulate f).coeff i = if i < 64 then f i else 0 := by
  unfold Poly.coeff Poly.tabulate
  split
  · next h => simp [h]
  · next h => simp [h]

theorem length_polyAdd (gf : Gf) (dst src : Poly) (c : Byte) (shift : Nat) (h : dst.length = 64) :
    (polyAdd gf dst src c shift).length = 64 := by
  unfold polyAdd
  split
  · exact h
  · simp

@[simp] theorem length_fmtSyndromes (u : BitVec 15) : (fmtSyndromes u).length = 64 := by
  simp [fmtSyndromes]

@[simp] theorem length_blkSyndromes (blk : List Byte) (bs npar : Nat) : (blkSyndromes blk bs npar).length = 64 := by
  simp [blkSyndromes]

/-- What one iteration of the solver does: the three cases of R201. -/
theorem bmStep_cases (gf : Gf) (syn : Poly) (t : BmState) (n : Nat) :
    (bmDiscrepancy gf syn t.C t.L n = 0 ∧ bmStep gf syn t n = { t with m := t.m + 1 }) ∨
    (bmDiscrepancy gf syn t.C t.L n ≠ 0 ∧ 2 * t.L ≤ n ∧
      bmStep gf syn t n =
        { C := polyAdd gf t.C t.B (bmScale gf t.b (bmDiscrepancy gf syn t.C t.L n)) t.m
          B := t.C, L := n + 1 - t.L, m := 1, b := bmDiscrepancy gf syn t.C t.L n }) ∨
    (bmDiscrepancy gf syn t.C t.L n ≠ 0 ∧ n < 2 * t.L ∧
      bmStep gf syn t n =
        { t with
          C := polyAdd gf t.C t.B (bmScale gf t.b (bmDiscrepancy gf syn t.C t.L n)) t.m
          m := t.m + 1 }) := by
  unfold bmStep
  by_cases hd : bmDiscrepancy gf syn t.C t.L n = 0
  · exact .inl ⟨hd, if_pos hd⟩
  · by_cases hL : 2 * t.L ≤ n
    · exact .inr (.inl ⟨hd, hL, (if_neg hd).trans (if_pos hL)⟩)
    · exact .inr (.inr ⟨hd, by omega, (if_neg hd).trans (if_neg hL)⟩)

/-- The solver one iteration further. -/
theorem bm_succ (gf : Gf) (syn : Poly) (N : Nat) : bm gf syn (N + 1) = bmStep gf syn (bm gf syn N) N := by
  simp [bm, List.range_succ]

@[simp] theorem bm_zero (gf : Gf) (syn : Poly) : bm gf syn 0 = bmInit := rfl

/-- The locator has 64 coefficients throughout. -/
theorem length_bm (gf : Gf) (syn : Poly) (N : Nat) :
    (bm gf syn N).C.length = 64 ∧ (bm gf syn N).B.length = 64 := by
  induction N with
  | zero => simp [bmInit, Poly.one]
  | succ N ih =>
    rw [bm_succ]
    rcases bmStep_cases gf syn (bm gf syn N) N with ⟨-, h⟩ | ⟨-, -, h⟩ | ⟨-, -, h⟩ <;> rw [h]
    · exact ih
    · exact ⟨length_polyAdd _ _ _ _ _ ih.1, ih.1⟩
    · exact ⟨length_polyAdd _ _ _ _ _ ih.1, ih.2⟩

@[simp] theorem length_applyErrors (blk : List Byte) (bs : Nat) (p q r : Poly) :
    (applyErrors blk bs p q r).length = bs := by
  simp [applyErrors]

/-- The two ways the corrector ends (R246): a clean block as it is, or the attempted correction. -/
theorem correctBlock_cases (blk : List Byte) (bs dw : Nat) :
    (anyNonzero (blkSyndromes blk bs (parityCount bs dw)) = false ∧ correctBlock blk bs dw = (blk, true)) ∨
    (anyNonzero (blkSyndromes blk bs (parityCount bs dw)) = true ∧
      ∃ fixed : List Byte, fixed.length = bs ∧
        correctBlock blk bs dw = (fixed, !anyNonzero (blkSyndromes fixed bs (parityCount bs dw)))) := by
  unfold correctBlock
  cases h : anyNonzero (blkSyndromes blk bs (parityCount bs dw)) with
  | false => exact .inl ⟨rfl, by simp [h]⟩
  | true => exact .inr ⟨rfl, _, length_applyErrors _ _ _ _ _, if_neg (by simp [h])⟩

/-- The corrector keeps a block's size. -/
theorem length_correctBlock {blk : List Byte} {bs : Nat} (h : blk.length = bs) (dw : Nat) :
    (correctBlock blk bs dw).1.length = bs := by
  rcases correctBlock_cases blk bs dw with ⟨-, h'⟩ | ⟨-, fixed, hl, h'⟩ <;> rw [h']
  · exact h
  · exact hl

@[simp] theorem length_gather (raw : Nat → Byte) (bc eo kdw npar k : Nat) :
    (gather raw bc eo kdw npar k).length = kdw + npar := by
  simp [gather]

/-- The two ways the stream ends (R261): every block corrected, or a first block that fails. -/
theorem deintBlocks_cons (raw : Nat → Byte) (total bs dw ns k : Nat) (ks : List Nat) :
    deintBlocks raw total bs dw ns (k :: ks) =
      if (deintBlock raw total bs dw ns k).2 = false then .error k
      else match deintBlocks raw total bs dw ns ks with
        | .ok ds => .ok ((deintBlock raw total bs dw ns k).1.take (dataWordsOf dw ns k) ++ ds)
        | .error j => .error j := rfl

/-- A failing block is one of the blocks. -/
theorem deintBlocks_error_mem (raw : Nat → Byte) (total bs dw ns : Nat) {ks : List Nat} {k : Nat}
    (h : deintBlocks raw total bs dw ns ks = .error k) :
    k ∈ ks ∧ (deintBlock raw total bs dw ns k).2 = false := by
  induction ks with
  | nil => simp [deintBlocks] at h
  | cons j ks ih =>
    rw [deintBlocks_cons] at h
    split at h
    · next hj =>
      cases h
      exact ⟨List.mem_cons_self, hj⟩
    · split at h
      · cases h
      · next e =>
        cases h
        exact ⟨List.mem_cons_of_mem _ (ih e).1, (ih e).2⟩

end Sys2Proof.Machine
end

