-- ==== Sys2Proof/Laws/Commands.lean ====
section
/-! SUPPORT. What each command's arm answers: always a next state, the report of R143 over the command's own effect. Cite
these instead of unfolding exec. -/

namespace Sys2Proof.Machine

@[simp] theorem State.finish_eq (r : ErrCode × State) : State.finish r = .next (r.2.complete r.1) := rfl

theorem exec_nop (s : State) : exec .nop s = .next (s.complete .success) := rfl

theorem exec_gf16Mul (s : State) :
    exec .gf16Mul s = .next ((gf16MulEffect s).2.complete (gf16MulEffect s).1) := rfl

theorem exec_gf256Mul (s : State) :
    exec .gf256Mul s = .next (({ s with result := gf256.mul s.opa s.opb } : State).complete .success) := rfl

theorem exec_synd16 (s : State) :
    exec .synd16 s = .next ((s.storeSyndromes (fmtSyndromes s.fmtA)).complete .success) := rfl

theorem exec_synd256 (s : State) :
    exec .synd256 s = .next ((synd256Effect s).2.complete (synd256Effect s).1) := rfl

theorem exec_bm16 (s : State) : exec .bm16 s = .next ((bm16Effect s).2.complete (bm16Effect s).1) := rfl

theorem exec_bm256 (s : State) : exec .bm256 s = .next ((bm256Effect s).2.complete (bm256Effect s).1) := rfl

theorem exec_fmtDec (s : State) : exec .fmtDec s = .next ((fmtDecEffect s).2.complete (fmtDecEffect s).1) := rfl

theorem exec_rsDec (s : State) : exec .rsDec s = .next ((rsDecEffect s).2.complete (rsDecEffect s).1) := rfl

theorem exec_deint (s : State) : exec .deint s = .next ((deintEffect s).2.complete (deintEffect s).1) := rfl

theorem gf16MulEffect_cases (s : State) :
    ((15 < s.opa.toNat ∨ 15 < s.opb.toNat) ∧ gf16MulEffect s = (.badParam, s)) ∨
    (s.opa.toNat ≤ 15 ∧ s.opb.toNat ≤ 15 ∧
      gf16MulEffect s = (.success, { s with result := gf16.mul s.opa s.opb })) := by
  unfold gf16MulEffect
  by_cases h : 15 < s.opa.toNat ∨ 15 < s.opb.toNat
  · exact .inl ⟨h, if_pos h⟩
  · exact .inr ⟨by omega, by omega, if_neg h⟩

theorem blockAdmitted_iff (bs dw : Nat) :
    blockAdmitted bs dw = true ↔ bs ≠ 0 ∧ dw ≤ bs ∧ bs - dw ≤ 64 := by
  simp [blockAdmitted, and_assoc]

theorem synd256Effect_cases (s : State) :
    (blockAdmitted s.bs s.dw = false ∧ synd256Effect s = (.badParam, s)) ∨
    (blockAdmitted s.bs s.dw = true ∧
      synd256Effect s = (.success,
        s.storeSyndromes (blkSyndromes (s.bufPrefix .blk s.bs) s.bs (parityCount s.bs s.dw)))) := by
  unfold synd256Effect
  cases h : blockAdmitted s.bs s.dw <;> simp

theorem bm16Effect_cases (s : State) :
    ((64 < s.synCount ∨ outsideGf16 (s.bufPrefix .s s.synCount) = true) ∧ bm16Effect s = (.badParam, s)) ∨
    (s.synCount ≤ 64 ∧ outsideGf16 (s.bufPrefix .s s.synCount) = false ∧
      bm16Effect s = (.success, s.storeLocator (bm gf16 (s.bufPrefix .s s.synCount) s.synCount))) := by
  unfold bm16Effect
  by_cases h : 64 < s.synCount
  · exact .inl ⟨.inl h, if_pos h⟩
  · cases h' : outsideGf16 (s.bufPrefix .s s.synCount)
    · exact .inr ⟨by omega, rfl, by simp [h]⟩
    · exact .inl ⟨.inr rfl, by simp⟩

theorem bm256Effect_cases (s : State) :
    (64 < s.synCount ∧ bm256Effect s = (.badParam, s)) ∨
    (s.synCount ≤ 64 ∧
      bm256Effect s = (.success, s.storeLocator (bm gf256 (s.bufPrefix .s s.synCount) s.synCount))) := by
  unfold bm256Effect
  by_cases h : 64 < s.synCount
  · exact .inl ⟨h, if_pos h⟩
  · exact .inr ⟨by omega, if_neg h⟩

theorem decodeFormat_cases (a b : BitVec 15) :
    ((correctFormat (a ^^^ fmtMask)).2 = true ∧
      decodeFormat a b = (.success, FmtOut.ofWord (correctFormat (a ^^^ fmtMask)).1 false)) ∨
    ((correctFormat (a ^^^ fmtMask)).2 = false ∧ (correctFormat (b ^^^ fmtMask)).2 = true ∧
      decodeFormat a b = (.success, FmtOut.ofWord (correctFormat (b ^^^ fmtMask)).1 true)) ∨
    ((correctFormat (a ^^^ fmtMask)).2 = false ∧ (correctFormat (b ^^^ fmtMask)).2 = false ∧
      decodeFormat a b = (.formatEcc, FmtOut.none)) := by
  unfold decodeFormat
  cases h1 : (correctFormat (a ^^^ fmtMask)).2 with
  | true => exact .inl ⟨rfl, if_pos h1⟩
  | false =>
    have h1' : ¬ (correctFormat (a ^^^ fmtMask)).2 = true := by simp [h1]
    cases h2 : (correctFormat (b ^^^ fmtMask)).2 with
    | true => exact .inr (.inl ⟨rfl, rfl, (if_neg h1').trans (if_pos h2)⟩)
    | false =>
      exact .inr (.inr ⟨rfl, rfl, (if_neg h1').trans (if_neg (by simp [h2]))⟩)

theorem rsDecEffect_cases (s : State) :
    (blockAdmitted s.bs s.dw = false ∧ rsDecEffect s = (.badParam, s)) ∨
    (blockAdmitted s.bs s.dw = true ∧
      rsDecEffect s =
        (if (correctBlock (s.bufPrefix .blk s.bs) s.bs s.dw).2 = true then .success else .dataEcc,
          (s.writeBuf .blk (correctBlock (s.bufPrefix .blk s.bs) s.bs s.dw).1).unspecifyIntermediates)) := by
  unfold rsDecEffect
  cases h : blockAdmitted s.bs s.dw <;> simp

theorem deintAdmitted_iff (total bs dw ns : Nat) :
    deintAdmitted total bs dw ns = true ↔
      total ≤ 8896 ∧ bs ≠ 0 ∧ dw < bs ∧ bs - dw ≤ 64 ∧ bs * ns ≤ total ∧
        ¬ (0 < longBlocks total bs ns ∧ bs = 255) := by
  simp [deintAdmitted, and_assoc]
  intros
  omega

theorem deintEffect_cases (s : State) :
    (deintAdmitted s.totalWords s.bs s.dw s.ns = false ∧ deintEffect s = (.badParam, s)) ∨
    (deintAdmitted s.totalWords s.bs s.dw s.ns = true ∧
      ∃ t : State,
        t = { s with deintInfo := { lb := BitVec.ofNat 14 (longBlocks s.totalWords s.bs s.ns)
                                    bc := BitVec.ofNat 14 (blockCount s.totalWords s.bs s.ns) } } ∧
        deintEffect s =
          let r := t.storeStream (deintStream (s.buf .raw) s.totalWords s.bs s.dw s.ns)
            (blockCount s.totalWords s.bs s.ns)
          (r.1, r.2.unspecifyIntermediates)) := by
  unfold deintEffect
  cases h : deintAdmitted s.totalWords s.bs s.dw s.ns <;> simp

/-- What `storeStream` can do (R261). -/
theorem State.storeStream_cases (s : State) (r : Except Nat (List Byte)) (bc : Nat) :
    (∃ d, r = .ok d ∧ s.storeStream r bc =
      (.success, { (s.unspecifyBuf .data).writeBuf .data d with
        dataBits := BitVec.ofNat 17 (8 * d.length), blockIdx := BitVec.ofNat 14 bc })) ∨
    (∃ k, r = .error k ∧ s.storeStream r bc =
      (.dataEcc, { s.unspecifyBuf .data with dataBits := 0, blockIdx := BitVec.ofNat 14 k })) := by
  cases r with
  | ok d => exact .inl ⟨d, rfl, rfl⟩
  | error k => exact .inr ⟨k, rfl, rfl⟩

/-- What every command leaves of the state around it, before its report (R31, R114). -/
theorem exec_completes (i : Instr) (s : State) : ∃ (t : State) (c : ErrCode), exec i s = .next (t.complete c) ∧
    t.cmd = s.cmd ∧ t.irqEn = s.irqEn ∧ t.status.werr = s.status.werr ∧ t.resetLine = s.resetLine ∧
    t.inputs = s.inputs ∧ t.answers = s.answers := by
  cases i with
  | nop => exact ⟨_, _, exec_nop s, rfl, rfl, rfl, rfl, rfl, rfl⟩
  | gf16Mul =>
    refine ⟨_, _, exec_gf16Mul s, ?_⟩
    obtain ⟨-, h⟩ | ⟨-, -, h⟩ := gf16MulEffect_cases s <;> simp [h]
  | gf256Mul => exact ⟨_, _, exec_gf256Mul s, rfl, rfl, rfl, rfl, rfl, rfl⟩
  | synd16 => exact ⟨_, _, exec_synd16 s, rfl, rfl, rfl, rfl, rfl, rfl⟩
  | synd256 =>
    refine ⟨_, _, exec_synd256 s, ?_⟩
    obtain ⟨-, h⟩ | ⟨-, h⟩ := synd256Effect_cases s <;> simp [h]
  | bm16 =>
    refine ⟨_, _, exec_bm16 s, ?_⟩
    obtain ⟨-, h⟩ | ⟨-, -, h⟩ := bm16Effect_cases s <;> simp [h]
  | bm256 =>
    refine ⟨_, _, exec_bm256 s, ?_⟩
    obtain ⟨-, h⟩ | ⟨-, h⟩ := bm256Effect_cases s <;> simp [h]
  | fmtDec => exact ⟨_, _, exec_fmtDec s, by simp [fmtDecEffect]⟩
  | rsDec =>
    refine ⟨_, _, exec_rsDec s, ?_⟩
    obtain ⟨-, h⟩ | ⟨-, h⟩ := rsDecEffect_cases s <;> simp [h]
  | deint =>
    refine ⟨_, _, exec_deint s, ?_⟩
    obtain ⟨-, h⟩ | ⟨-, t, ht, h⟩ := deintEffect_cases s
    · simp [h]
    · obtain ⟨d, -, hs⟩ | ⟨k, -, hs⟩ := t.storeStream_cases
        (deintStream (s.buf .raw) s.totalWords s.bs s.dw s.ns) (blockCount s.totalWords s.bs s.ns) <;>
      (simp only [h, hs]; simp [ht])

end Sys2Proof.Machine
end

