-- ==== Sys2Proof/Laws/PerInstr.lean ====
section
/-! SUPPORT. Statements about every command as syntax, one lemma per constructor. -/

namespace Sys2Proof.Laws

/-- A command's own fields pass the checks of a command word (30_encoding.md R110, R113). -/
def LegalFields.Statement (i : Instr) : Prop := i.fields.wellFormed = true

theorem LegalFields.nop : LegalFields.Statement .nop := rfl
theorem LegalFields.gf16Mul : LegalFields.Statement .gf16Mul := rfl
theorem LegalFields.gf256Mul : LegalFields.Statement .gf256Mul := rfl
theorem LegalFields.synd16 : LegalFields.Statement .synd16 := rfl
theorem LegalFields.synd256 : LegalFields.Statement .synd256 := rfl
theorem LegalFields.bm16 : LegalFields.Statement .bm16 := rfl
theorem LegalFields.bm256 : LegalFields.Statement .bm256 := rfl
theorem LegalFields.fmtDec : LegalFields.Statement .fmtDec := rfl
theorem LegalFields.rsDec : LegalFields.Statement .rsDec := rfl
theorem LegalFields.deint : LegalFields.Statement .deint := rfl

end Sys2Proof.Laws
end

