-- ==== Sys2Proof/Laws/Step.lean ====
section
/-! SUPPORT. What one step can do, said once: the engine's completion, the host's next input, or nothing. -/

namespace Sys2Proof.Machine

theorem step_of_engineTurn {s : State} (h : s.engineTurn = true) : step s = execute s.cmd s := if_pos h

theorem step_of_hostTurn {s : State} (h : s.engineTurn = false) : step s = hostTurn s := by
  simp [step, h]

theorem State.busy_of_engineTurn {s : State} (h : s.engineTurn = true) : s.status.busy = true := by
  unfold State.engineTurn at h
  exact (Bool.and_eq_true_iff.1 h).1

theorem State.engineTurn_of_idle {s : State} (h : s.status.busy = false) : s.engineTurn = false := by
  simp [State.engineTurn, h]

theorem execute_cases (w : Word) (s : State) :
    (∃ i, decode w = .ok i ∧ execute w s = exec i s) ∨
    (∃ e, decode w = .error e ∧ execute w s = .next (s.complete .illegalCmd)) := by
  unfold execute
  cases h : decode w with
  | ok i => exact .inl ⟨i, rfl, rfl⟩
  | error e => exact .inr ⟨e, rfl, rfl⟩

/-- Every word completes, and what its completion leaves of the state around it. -/
theorem execute_completes (w : Word) (s : State) : ∃ (t : State) (c : ErrCode), execute w s = .next (t.complete c) ∧
    t.cmd = s.cmd ∧ t.irqEn = s.irqEn ∧ t.status.werr = s.status.werr ∧ t.resetLine = s.resetLine ∧
    t.inputs = s.inputs ∧ t.answers = s.answers := by
  obtain ⟨i, -, h⟩ | ⟨-, -, h⟩ := execute_cases w s
  · rw [h]
    exact exec_completes i s
  · exact ⟨s, .illegalCmd, h, rfl, rfl, rfl, rfl, rfl, rfl⟩

/-- The outcomes of one input. -/
theorem hostEvent_cases (e : Event) (s : State) :
    (∃ a, e = .access a ∧ s.resetLine = true ∧ hostEvent e s = .fault .accessDuringReset) ∨
    (∃ a, e = .access a ∧ s.resetLine = false ∧ hostEvent e s = .next (State.answer (s.access a))) ∨
    (∃ b, e = .resetLine b ∧ hostEvent e s = .next (s.setResetLine b)) := by
  cases e with
  | access a =>
    cases h : s.resetLine with
    | true => exact .inl ⟨a, rfl, rfl, by simp [hostEvent, h]⟩
    | false => exact .inr (.inl ⟨a, rfl, rfl, by simp [hostEvent, h]⟩)
  | resetLine b => exact .inr (.inr ⟨b, rfl, rfl⟩)

/-- Everything a step that answers a next state can have done. -/
theorem step_next_cases {s t : State} (h : step s = .next t) :
    (s.engineTurn = true ∧ ∃ i, decode s.cmd = .ok i ∧ exec i s = .next t) ∨
    (s.engineTurn = true ∧ (∃ e, decode s.cmd = .error e) ∧ t = s.complete .illegalCmd) ∨
    (s.engineTurn = false ∧ s.inputs = [] ∧ t = s) ∨
    (s.engineTurn = false ∧ ∃ i is, s.inputs = i :: is ∧ hostEvent i.event { s with inputs := is } = .next t) := by
  cases he : s.engineTurn with
  | true =>
    rw [step_of_engineTurn he] at h
    rcases execute_cases s.cmd s with ⟨i, hd, hx⟩ | ⟨e, hd, hx⟩
    · exact .inl ⟨rfl, i, hd, hx ▸ h⟩
    · rw [hx] at h
      cases h
      exact .inr (.inl ⟨rfl, ⟨e, hd⟩, rfl⟩)
  | false =>
    rw [step_of_hostTurn he] at h
    unfold hostTurn at h
    cases hi : s.inputs with
    | nil =>
      rw [hi] at h
      cases h
      exact .inr (.inr (.inl ⟨rfl, rfl, rfl⟩))
    | cons i is =>
      rw [hi] at h
      exact .inr (.inr (.inr ⟨rfl, i, is, rfl, h⟩))

/-- What a host read can do. -/
theorem State.busRead_cases (s : State) (width : Width) (off : BitVec 16) :
    (readTarget width off = none ∧ s.busRead width off = (.busError, s)) ∨
    (∃ t, readTarget width off = some t ∧ s.status.busy = true ∧ t.exactWhileBusy = false ∧
      s.busRead width off = (.data (Config.freeWord s.draws), { s with draws := s.draws + 1 })) ∨
    (∃ t, readTarget width off = some t ∧ (s.status.busy = false ∨ t.exactWhileBusy = true) ∧
      s.busRead width off = (.data (s.readAt t), s)) := by
  unfold State.busRead
  cases h : readTarget width off with
  | none => exact .inl ⟨rfl, rfl⟩
  | some t =>
    by_cases hb : s.status.busy = true ∧ t.exactWhileBusy = false
    · exact .inr (.inl ⟨t, rfl, hb.1, hb.2, by simp [hb]⟩)
    · refine .inr (.inr ⟨t, rfl, ?_, by simp [hb]⟩)
      cases h1 : s.status.busy <;> cases h2 : t.exactWhileBusy <;> simp_all

/-- What a host write can do. -/
theorem State.busWrite_cases (s : State) (width : Width) (lanes : BitVec 4) (off : BitVec 16) (v : Word) :
    (writeTarget width lanes off = none ∧ s.busWrite width lanes off v = (.busError, s)) ∨
    (∃ t, writeTarget width lanes off = some t ∧ s.status.busy = true ∧ t.writableWhileBusy = false ∧
      s.busWrite width lanes off v = (.written, { s with status := s.status.dropWrite })) ∨
    (∃ t, writeTarget width lanes off = some t ∧ (s.status.busy = false ∨ t.writableWhileBusy = true) ∧
      s.busWrite width lanes off v = (.written, s.writeAt t v)) := by
  unfold State.busWrite
  cases h : writeTarget width lanes off with
  | none => exact .inl ⟨rfl, rfl⟩
  | some t =>
    by_cases hb : s.status.busy = true ∧ t.writableWhileBusy = false
    · exact .inr (.inl ⟨t, rfl, hb.1, hb.2, by simp [hb]⟩)
    · refine .inr (.inr ⟨t, rfl, ?_, by simp [hb]⟩)
      cases h1 : s.status.busy <;> cases h2 : t.writableWhileBusy <;> simp_all

/-- Each register stands at its offset of the map. -/
theorem targetAt_offset (r : Reg) : targetAt r.offset = some (.reg r) := by cases r <;> decide

/-- A legal access to a register's offset reaches the register. -/
theorem readTarget_offset (r : Reg) : readTarget .w32 (BitVec.ofNat 16 r.offset) = some (.reg r) := by
  cases r <;> decide

theorem writeTarget_offset (r : Reg) : writeTarget .w32 0xF (BitVec.ofNat 16 r.offset) = some (.reg r) :=
  readTarget_offset r

theorem State.busRead_of_idle {s : State} {width : Width} {off : BitVec 16} {t : Target}
    (ht : readTarget width off = some t) (hb : s.status.busy = false) :
    s.busRead width off = (.data (s.readAt t), s) := by
  simp [State.busRead, ht, hb]

theorem State.busWrite_of_idle {s : State} {width : Width} {lanes : BitVec 4} {off : BitVec 16} {t : Target}
    (v : Word) (ht : writeTarget width lanes off = some t) (hb : s.status.busy = false) :
    s.busWrite width lanes off v = (.written, s.writeAt t v) := by
  simp [State.busWrite, ht, hb]

theorem hostEvent_access {s : State} (a : Access) (hr : s.resetLine = false) :
    hostEvent (.access a) s = .next (State.answer (s.access a)) := by
  simp [hostEvent, hr]

/-- What an idle read of a register's offset does. -/
theorem hostEvent_read_idle (r : Reg) {s : State} (hb : s.status.busy = false) (hr : s.resetLine = false) :
    hostEvent (.access (.read .w32 (BitVec.ofNat 16 r.offset))) s =
      .next { s with answers := .data (s.readReg r) :: s.answers } := by
  rw [hostEvent_access _ hr, State.access, State.busRead_of_idle (readTarget_offset r) hb]
  rfl

/-- What an idle write to a register's offset does. -/
theorem hostEvent_write_idle (r : Reg) (v : Word) {s : State} (hb : s.status.busy = false)
    (hr : s.resetLine = false) :
    hostEvent (.access (.write .w32 0xF (BitVec.ofNat 16 r.offset) v)) s =
      .next { s.writeReg r v with answers := .written :: (s.writeReg r v).answers } := by
  rw [hostEvent_access _ hr, State.access, State.busWrite_of_idle v (writeTarget_offset r) hb]
  rfl

end Sys2Proof.Machine
end

