-- ==== Sys2Proof/Tests/Slice0.lean ====
section
/-! SUPPORT. Tests of the model against the spec's own vectors (95_test_vectors.md, named in each comment), the decoder on
words written out from R111, ill-formed fields, and a witness for the hypotheses of every statement. -/

namespace Sys2Proof.Tests

open Sys2Proof Sys2Proof.Machine

/-! Helpers: a state to start from and what a run's next state shows. -/

/-- The next state, if that is the outcome. -/
def nextOf (o : Host.Outcome State Fault Refusal) : Option State :=
  match o with
  | .next s => some s
  | .fault _ => none
  | .refused _ => none

/-- The reset state with bytes in one buffer. -/
def withBytes (b : Buf) (bytes : List Byte) (s : State) : State := s.writeBuf b bytes

/-- STATUS after a command, as the host reads it. -/
def statusAfter (i : Instr) (s : State) : Option Word := (nextOf (exec i s)).map fun t => t.readReg .status

/-- The first bytes of a buffer after a command. -/
def bytesAfter (i : Instr) (s : State) (b : Buf) (n : Nat) : Option (List Byte) :=
  (nextOf (exec i s)).map fun t => t.bufPrefix b n

/-- The code and the flag ERR after a command. -/
def codeAfter (i : Instr) (s : State) : Option (BitVec 4 × Bool) :=
  (nextOf (exec i s)).map fun t => (t.status.errCode, t.status.err)

def operands (a b : Byte) : State := { State.reset with opa := a, opb := b, result := 0x55 }

def blockState (bs dw : Byte) (blk : List Byte) : State :=
  withBytes .blk blk { State.reset with rsBs := bs, rsDw := dw }

def synState (n : BitVec 7) (syn : List Byte) : State := withBytes .s syn { State.reset with synN := n }

def fmtState (a b : BitVec 15) : State := { State.reset with fmtA := a, fmtB := b }

def streamState (total : BitVec 14) (bs dw ns : Byte) (raw : List Byte) : State :=
  withBytes .raw raw { State.reset with total := total, rsBs := bs, rsDw := dw, rsNs := ns }

def busyState (w : Word) : State := State.reset.launch w

/-! Ill-formed command fields, one per check (R110, R113). -/

theorem test_illformed_reserved_bit : (CmdFields.mk 1 false 1).wellFormed = false := by decide
theorem test_illformed_operation : (CmdFields.mk 8 false 0).wellFormed = false := by decide
theorem test_illformed_field_select : (CmdFields.mk 5 true 0).wellFormed = false := by decide

/-! Decoding: every command's word as RSV, F and OP of R111's row. -/

theorem test_decode_words :
    decode 0b000000000000000000000000000_0_0000#32 = .ok .nop ∧
    decode 0b000000000000000000000000000_0_0001#32 = .ok .gf16Mul ∧
    decode 0b000000000000000000000000000_0_0010#32 = .ok .gf256Mul ∧
    decode 0b000000000000000000000000000_0_0011#32 = .ok .synd16 ∧
    decode 0b000000000000000000000000000_1_0011#32 = .ok .synd256 ∧
    decode 0b000000000000000000000000000_0_0100#32 = .ok .bm16 ∧
    decode 0b000000000000000000000000000_1_0100#32 = .ok .bm256 ∧
    decode 0b000000000000000000000000000_0_0101#32 = .ok .fmtDec ∧
    decode 0b000000000000000000000000000_0_0110#32 = .ok .rsDec ∧
    decode 0b000000000000000000000000000_0_0111#32 = .ok .deint :=
  ⟨rfl, rfl, rfl, rfl, rfl, rfl, rfl, rfl, rfl, rfl⟩

/-- The illegal words of V-L-2 to V-L-4, each for its own reason (R113). -/
theorem test_decode_illegal :
    decode 0x00000008 = .error .undefinedOp ∧ decode 0x00000015 = .error .fieldNotAllowed ∧
    decode 0x80000001 = .error .reservedBits :=
  ⟨rfl, rfl, rfl⟩

theorem test_decode_table_word : decodeTableWord 32 0x13 = some .synd256 := by decide

/-! Commands, on the vectors of 95_test_vectors.md. -/

/-- V-L-1: NOP from reset ends with STATUS 2 and IRQ_PEND 1. -/
theorem test_nop : (nextOf (step (State.reset.withFetchWord 32 0))).map
    (fun t => (t.readReg .status, t.irqPend)) = some (0x2, true) := by decide

/-- V-L-2: word 8 ends with STATUS 0x806 and CMD 8. -/
theorem test_illegal_word : (nextOf (step (State.reset.withFetchWord 32 8))).map
    (fun t => (t.readReg .status, t.cmd)) = some (0x806, 8) := by decide

/-- V-G16-2: F ⊗ F = A. -/
theorem test_gf16Mul : (nextOf (exec .gf16Mul (operands 0xF 0xF))).map
    (fun t => (t.result, t.readReg .status)) = some (0xA, 0x2) := by decide

/-- V-G16-4: the operand 0x10 is refused, RESULT unchanged. -/
theorem test_gf16Mul_refuses : (nextOf (exec .gf16Mul (operands 0x10 1))).map
    (fun t => (t.result, t.readReg .status)) = some (0x55, 0x906) := by decide

/-- V-G256-1, V-G256-3: 57 ⊗ 83 = 31 and FF ⊗ FF = E2. -/
theorem test_gf256Mul :
    (nextOf (exec .gf256Mul (operands 0x57 0x83))).map (·.result) = some 0x31 ∧
    (nextOf (exec .gf256Mul (operands 0xFF 0xFF))).map (·.result) = some 0xE2 := by decide

/-- V-S16-5: the codeword 14DC with bits 1, 7, 14 flipped. -/
theorem test_synd16 : bytesAfter .synd16 (fmtState 0x545E 0) .s 7 = some [0, 0, 0xB, 0, 7, 9, 0] := by
  decide

/-- V-S16-7: all ones is a codeword, so NZ is 0; V-S16-3 sets NZ. -/
theorem test_synd16_flag :
    statusAfter .synd16 (fmtState 0x7FFF 0) = some 0x2 ∧ statusAfter .synd16 (fmtState 0x4000 0) = some 0xA := by
  decide

/-- V-S256-1: R(x) = x. -/
theorem test_synd256 : bytesAfter .synd256 (blockState 3 1 [0, 1, 0]) .s 3 = some [1, 2, 0] := by decide

/-- V-S256-7: 65 parity words are refused. -/
theorem test_synd256_refuses : statusAfter .synd256 (blockState 200 135 []) = some 0x906 := by decide

/-- V-BM-6: SIGMA 01 07 06, BM_L 2. -/
theorem test_bm16 : (nextOf (exec .bm16 (synState 6 [7, 6, 0, 7, 6, 0]))).map
    (fun t => (t.bufPrefix .sigma 4, t.bmL)) = some ([1, 7, 6, 0], 2) := by decide

/-- V-BM-8: a syndrome above 15 is refused. -/
theorem test_bm16_refuses : statusAfter .bm16 (synState 4 [1, 2, 3, 0x10]) = some 0x906 := by decide

/-- V-BM-11: two errors. -/
theorem test_bm256 : (nextOf (exec .bm256 (synState 4 [0x85, 0xB0, 0x51, 0x98]))).map
    (fun t => (t.bufPrefix .sigma 4, t.bmL)) = some ([1, 0x7C, 0x87, 0], 2) := by decide

/-- V-BM-5 over GF(256): length 4 beyond N/2, `1 + x^4` (90_conflicts.md C3). -/
theorem test_bm256_length : (nextOf (exec .bm256 (synState 4 [0, 0, 0, 1]))).map
    (fun t => (t.bufPrefix .sigma 6, t.bmL)) = some ([1, 0, 0, 0, 1, 0], 4) := by decide

/-- V-F-5: three errors at location A. -/
theorem test_fmtDec : (nextOf (exec .fmtDec (fmtState 0x004C 0))).map
    (fun t => t.readReg .fmtOut) = some 0x805014DC := by decide

/-- V-F-7: A fails, B decodes. -/
theorem test_fmtDec_location_b : (nextOf (exec .fmtDec (fmtState 0x40C1 0x40CE))).map
    (fun t => t.readReg .fmtOut) = some 0x815014DC := by decide

/-- V-RS-6: one parity word, the attempted correction is kept and DATA_ECC reported. -/
theorem test_rsDec_fails : bytesAfter .rsDec (blockState 3 2 [0, 0, 2]) .blk 3 = some [0, 0x8E, 2] ∧
    codeAfter .rsDec (blockState 3 2 [0, 0, 2]) = some (4, true) := by decide

/-- V-RS-9: one error at `x^1`. -/
theorem test_rsDec : bytesAfter .rsDec (blockState 6 4 [0, 0, 0, 0, 0x20, 0]) .blk 6 = some [0, 0, 0, 0, 0, 0] ∧
    codeAfter .rsDec (blockState 6 4 [0, 0, 0, 0, 0x20, 0]) = some (0, false) := by decide

/-- The stream of V-DI-1: a short and a long block. -/
def twoBlocks : State := streamState 9 4 2 1 [0x01, 0x10, 0x03, 0x20, 0x30, 0x02, 0x40, 0x00, 0x40]

/-- The stream of V-DI-2: its second block has two errors. -/
def badSecondBlock : State := streamState 9 4 2 1 [0x01, 0x11, 0x03, 0x20, 0x30, 0x02, 0x40, 0x00, 0x40]

/-- V-DI-1. -/
theorem test_deint : (nextOf (exec .deint twoBlocks)).map
    (fun t => (t.bufPrefix .data 5, t.dataBits, t.blockIdx, t.readReg .deintInfo)) =
      some ([0x01, 0x03, 0x10, 0x20, 0x30], 40, 2, 0x00020001) := by decide

/-- V-DI-2. -/
theorem test_deint_fails : (nextOf (exec .deint badSecondBlock)).map
    (fun t => (t.status.errCode, t.dataBits, t.blockIdx, t.readReg .deintInfo)) =
      some (4, 0, 1, 0x00020001) := by decide

/-! The port (V-L-5 to V-L-13). -/

/-- V-L-5: a write to OPA while busy is dropped and sets WERR. -/
theorem test_write_while_busy : (nextOf (hostEvent (wr 0x014 5).event (busyState 2))).map
    (fun t => (t.opa, t.readReg .status)) = some (0, 0x11) := by decide

/-- V-L-8, V-L-9: narrow, misaligned and unmapped accesses. -/
theorem test_bus_errors :
    (State.reset.access (.read .w16 0x000)).1 = .busError ∧ (State.reset.access (.read .w32 0x002)).1 = .busError ∧
    (State.reset.access (.read .w32 0x050)).1 = .busError ∧ State.reset.access (.write .w32 0xF 0x62C0 1) =
      (.busError, State.reset) := by decide

/-- V-L-12: ID. -/
theorem test_id : (State.reset.writeReg .id 0).readReg .id = 0x51524331 := by decide

/-- V-L-13: a buffer word and its bytes. -/
theorem test_buffer_word :
    ((State.reset.busWrite .w32 0xF 0x200 0x04030201).2.bufPrefix .blk 4,
      ((State.reset.busWrite .w32 0xF 0x200 0x04030201).2.busRead .w32 0x200).1) =
      ([1, 2, 3, 4], .data 0x04030201) := by decide

/-- The example of R116. -/
theorem test_wrb : wrb .blk 0 [1, 2, 3, 4, 5] = [wr 0x200 0x04030201, wr 0x204 0x00000005] := by decide

/-! Witnesses: concrete states and operands that meet each statement's hypotheses. -/

theorem witness_IllegalWordCompletesWithIllegalCmd :
    (busyState 0x15).engineTurn = true ∧ (∀ i, (busyState 0x15).cmd ≠ encode i) ∧
    (∀ i, (8 : Word) ≠ encode i) ∧ (∀ i, (0x80000001 : Word) ≠ encode i) := by
  refine ⟨by decide, ?_, ?_, ?_⟩ <;> intro i <;> cases i <;> decide

theorem witness_ExecuteRunsNamedCommand : (0x13 : Word) = encode .synd256 ∧ ∀ i, (0x20 : Word) ≠ encode i :=
  ⟨by decide, fun i => by cases i <;> decide⟩

theorem witness_StepRunsDecodedCommand :
    (busyState 7).status.busy = true ∧ (busyState 7).inputs = [] ∧ decode (busyState 7).cmd = .ok .deint ∧
    ∃ x xs, ({ busyState 7 with inputs := [(rd 8).late] } : State).inputs = x :: xs ∧ x.afterCompletion = true :=
  ⟨rfl, rfl, rfl, _, _, rfl, rfl⟩

theorem witness_StepTakesNextInput :
    State.reset.status.busy = false ∧ State.reset.inputs = [] ∧
    (∃ x xs, ({ busyState 1 with inputs := [rd 8] } : State).inputs = x :: xs ∧ x.afterCompletion = false) ∧
    (∃ x xs, ({ State.reset with inputs := [(rd 8).late] } : State).inputs = x :: xs) :=
  ⟨rfl, rfl, ⟨_, _, rfl, rfl⟩, _, _, rfl⟩

theorem witness_LaunchWritesExactly : State.reset.status.busy = false ∧ State.reset.resetLine = false := by decide

theorem witness_WritesWhileBusyAreDropped :
    (busyState 1).status.busy = true ∧ (busyState 1).resetLine = false ∧
    (0x000 : BitVec 16).toNat % 4 = 0 ∧ mappedOffset (0x000 : BitVec 16).toNat ∧
    (0x04C : BitVec 16).toNat % 4 = 0 ∧ mappedOffset (0x04C : BitVec 16).toNat ∧
    (0x62BC : BitVec 16).toNat % 4 = 0 ∧ mappedOffset (0x62BC : BitVec 16).toNat ∧
    (0xA2BC : BitVec 16).toNat % 4 = 0 ∧ mappedOffset (0xA2BC : BitVec 16).toNat := by
  unfold mappedOffset
  decide

theorem witness_BadParamExactlyByTable :
    badParam .gf16Mul (operands 16 0) ∧ ¬ badParam .gf16Mul (operands 15 15) ∧
    badParam .synd256 (blockState 200 135 []) ∧ ¬ badParam .synd256 (blockState 255 191 []) ∧
    badParam .bm16 (synState 4 [1, 2, 3, 0x10]) ∧ ¬ badParam .bm16 (synState 4 [1, 2, 3, 0xF]) ∧
    badParam .bm256 (synState 65 []) ∧ ¬ badParam .bm256 (synState 64 []) ∧
    badParam .rsDec (blockState 10 11 []) ∧ ¬ badParam .rsDec (blockState 5 5 []) ∧
    badParam .deint (streamState 600 255 200 1 []) ∧ ¬ badParam .deint twoBlocks := by
  refine ⟨?_, ?_, ?_, ?_, ⟨?_, ?_⟩⟩ <;> unfold badParam <;> decide

theorem witness_Gf16MulWritesProduct :
    (operands 15 15).opa.toNat ≤ 15 ∧ (operands 15 15).opb.toNat ≤ 15 ∧ 15 < (operands 0 16).opb.toNat := by decide

theorem witness_TableProductsArePolynomialProducts : (15 : Byte).toNat ≤ 15 ∧ (0 : Byte).toNat ≤ 15 := by decide

theorem witness_TablesArePowersOfAlpha : exp16 14 = 9 ∧ log16 9 = 14 ∧ exp256 254 = 0x8E ∧ log256 0x8E = 254 := by
  decide

theorem witness_Mul256FieldLaws : (0xFF : Byte) ≠ 0 ∧ gf256.mul 0 7 = 0 := by decide

theorem witness_Mul16FieldLaws : (15 : Byte).toNat ≤ 15 ∧ (15 : Byte) ≠ 0 ∧ gf16.mul 15 0 = 0 := by decide

theorem witness_Synd256WritesBlockSyndromes :
    ¬ badParam .synd256 (blockState 255 191 []) ∧ badParam .synd256 (blockState 0 0 []) := by
  unfold badParam
  decide

theorem witness_Bm16WritesLocator :
    ¬ badParam .bm16 (synState 64 (List.replicate 64 15)) ∧ badParam .bm16 (synState 65 []) := by
  unfold badParam
  decide

theorem witness_Bm256WritesLocator :
    ¬ badParam .bm256 (synState 64 []) ∧ badParam .bm256 (synState 65 []) := by
  unfold badParam
  decide

theorem witness_LocatorGeneratesSyndromes :
    (6 : Nat) ≤ 63 ∧ (∀ k, k < 6 → (Poly.coeff [7, 6, 0, 7, 6, 0] k).toNat ≤ gf16.order) ∧
    (bm gf16 [7, 6, 0, 7, 6, 0] 6).L ≤ 5 ∧ (5 : Nat) < 6 := by decide

theorem witness_FmtDecTriesBothLocations :
    (correctFormat ((fmtState 0x004C 0).fmtA ^^^ 0x5412)).2 = true ∧
    (correctFormat ((fmtState 0x40C1 0x40CE).fmtA ^^^ 0x5412)).2 = false ∧
    (correctFormat ((fmtState 0x40C1 0x40CE).fmtB ^^^ 0x5412)).2 = true ∧
    (correctFormat ((fmtState 0x40C1 0x40C1).fmtB ^^^ 0x5412)).2 = false := by decide

theorem witness_FormatCorrectsThreeErrors : bitCount 0x4082 = 3 := by decide

theorem witness_FmtDecRecoversDamagedWord :
    bitCount 0x4082 ≤ 3 ∧ (fmtState 0x004C 0).fmtA = bchCodeword 5 ^^^ 0x4082 ^^^ 0x5412 := by decide

theorem witness_RsDecCorrectsBlockInPlace :
    ¬ badParam .rsDec (blockState 255 191 []) ∧ ¬ badParam .rsDec (blockState 1 1 []) ∧
    badParam .rsDec (blockState 255 190 []) := by
  unfold badParam
  decide

theorem witness_RsDecSuccessLeavesCodeword :
    ¬ badParam .rsDec (blockState 3 2 [0, 0, 1]) ∧ (∃ t, exec .rsDec (blockState 3 2 [0, 0, 1]) = .next t) ∧
    anyNonzero (blkSyndromes ((blockState 3 2 [1, 3, 2]).bufPrefix .blk 3) 3 1) = false := by
  unfold badParam
  exact ⟨by decide, ⟨_, rfl⟩, by decide +kernel⟩

theorem witness_SingleByteErrorIsCorrected :
    (1 : Nat) + 2 ≤ 3 ∧ ([0, 0, 0] : List Byte).length = 3 ∧ (2 : Nat) < 3 ∧
    anyNonzero (blkSyndromes [0, 0, 0] 3 (3 - 1)) = false := by decide

theorem witness_DeintConcatenatesBlocks :
    ¬ badParam .deint twoBlocks ∧ ∀ k, k < blockCount twoBlocks.totalWords twoBlocks.bs twoBlocks.ns →
      (deintBlock (twoBlocks.buf .raw) twoBlocks.totalWords twoBlocks.bs twoBlocks.dw twoBlocks.ns k).2 = true := by
  unfold badParam
  decide

theorem witness_DeintReportsFirstFailingBlock :
    ¬ badParam .deint badSecondBlock ∧
    1 < blockCount badSecondBlock.totalWords badSecondBlock.bs badSecondBlock.ns ∧
    (deintBlock (badSecondBlock.buf .raw) badSecondBlock.totalWords badSecondBlock.bs badSecondBlock.dw
      badSecondBlock.ns 1).2 = false ∧
    ∀ j, j < 1 → (deintBlock (badSecondBlock.buf .raw) badSecondBlock.totalWords badSecondBlock.bs
      badSecondBlock.dw badSecondBlock.ns j).2 = true := by
  unfold badParam
  decide

/-- One clean short block. -/
def cleanStream : State := streamState 4 4 2 1 [0x01, 0x03, 0x02, 0x00]

theorem witness_DeintCopiesCleanStream :
    ¬ badParam .deint cleanStream ∧ ∀ k, k < blockCount cleanStream.totalWords cleanStream.bs cleanStream.ns →
      anyNonzero (blkSyndromes
        (gather (cleanStream.buf .raw) (blockCount cleanStream.totalWords cleanStream.bs cleanStream.ns)
          (parityOffset cleanStream.totalWords cleanStream.bs cleanStream.dw cleanStream.ns)
          (dataWordsOf cleanStream.dw cleanStream.ns k) (cleanStream.bs - cleanStream.dw) k)
        (blockSizeOf cleanStream.bs cleanStream.ns k) (cleanStream.bs - cleanStream.dw)) = false := by
  unfold badParam
  decide

theorem witness_DeintStaysInsideStream :
    ¬ badParam .deint twoBlocks ∧ 1 < blockCount twoBlocks.totalWords twoBlocks.bs twoBlocks.ns ∧
    2 < dataWordsOf twoBlocks.dw twoBlocks.ns 1 ∧ 1 < twoBlocks.bs - twoBlocks.dw := by
  unfold badParam
  decide

theorem witness_DeintDependsOnOperandsOnly :
    ¬ badParam .deint twoBlocks ∧ (∀ i, i < twoBlocks.total.toNat →
      twoBlocks.buf .raw i = ({ twoBlocks with opa := 1 } : State).buf .raw i) ∧
    (∃ t₁, exec .deint twoBlocks = .next t₁) ∧ (∃ t₂, exec .deint { twoBlocks with opa := 1 } = .next t₂) := by
  unfold badParam
  exact ⟨by decide, fun _ _ => rfl, ⟨_, rfl⟩, ⟨_, rfl⟩⟩

theorem witness_IllegalAccessAnswersBusError :
    State.reset.resetLine = false ∧ Width.w8 ≠ .w32 ∧ (2 : BitVec 16).toNat % 4 ≠ 0 ∧
    ¬ mappedOffset (0x050 : BitVec 16).toNat ∧ ¬ mappedOffset (0xFFFC : BitVec 16).toNat ∧ (7 : BitVec 4) ≠ 0xF := by
  unfold mappedOffset
  decide

theorem witness_BufferWordsAreLittleEndian :
    State.reset.status.busy = false ∧ State.reset.resetLine = false ∧
    (0x100 : BitVec 16).toNat % 4 = 0 ∧ mappedOffset (0x100 : BitVec 16).toNat ∧
    (0xA2BC : BitVec 16).toNat % 4 = 0 ∧ 0x100 ≤ (0xA2BC : BitVec 16).toNat ∧
    mappedOffset (0xA2BC : BitVec 16).toNat := by
  unfold mappedOffset
  decide

theorem witness_ReadsHaveNoSideEffect :
    ∃ t, hostEvent (.access (.read .w32 0x100)) (busyState 1) = .next t := ⟨_, rfl⟩

theorem witness_BusyReadsOfControlRegistersAreExact :
    (busyState 1).status.busy = true ∧ (busyState 1).resetLine = false := by decide

theorem witness_IdleReadsReturnTheRegister :
    (operands 7 9).status.busy = false ∧ (operands 7 9).resetLine = false ∧
    hostEvent (.access (.read .w32 0x018)) (operands 7 9) =
      .next { operands 7 9 with answers := [.data 9] } ∧
    hostEvent (.access (.read .w32 0x01C)) (operands 7 9) =
      .next { operands 7 9 with answers := [.data 0x55] } := ⟨rfl, rfl, rfl, rfl⟩

theorem witness_IdleRegisterWrites : State.reset.status.busy = false ∧ State.reset.resetLine = false := by decide

theorem witness_InterruptFollowsPendingAndEnable : State.reset.resetLine = false := rfl

theorem witness_ResetInputDiscardsCommand : (true = true) ∧ (State.reset.resetTo true).resetLine = true := by decide

/-- Also for a word that is none of the ten, whose completion leaves code 8. -/
theorem witness_ErrorsDoNotStopTheEngine :
    (operands 16 0).resetLine = false ∧
    (nextOf (execute 0x20 (operands 16 0))).map (fun t => t.status.errCode) = some 8 := by decide

/-- The reset input asserted, with a host access waiting. -/
def accessInReset : State := { State.reset.resetTo true with inputs := [rd 8] }

theorem witness_OnlyStopIsAccessDuringReset :
    accessInReset.engineTurn = false ∧ accessInReset.resetLine = true ∧
    ∃ x xs a, accessInReset.inputs = x :: xs ∧ x.event = .access a := ⟨rfl, rfl, _, _, _, rfl, rfl⟩

theorem witness_InstancesAreIndependent :
    ∃ q q', Platform.stepAt [⟨1, busyState 0⟩, ⟨2, busyState 2⟩] 0 = .next q ∧
      Platform.stepAt [⟨1, busyState 0⟩, ⟨2, busyState 2⟩] 1 = .next q' := ⟨_, _, rfl, rfl⟩

/-- A command in flight from reset meets the invariant, and its step answers a next state. -/
theorem witness_StepKeepsInv : (busyState 1).Inv ∧ ∃ t, step (busyState 1) = .next t :=
  ⟨{ memWf := by decide
     gensOld := by intro b; cases b <;> decide
     busyClean := by decide
     errIff := by decide
     codes := by decide
     errDone := by decide
     fmtOut := .inl rfl
     dataBits := by decide
     counts := by decide
     inReset := by intro h; exact absurd h (by decide) }, _, rfl⟩

theorem witness_CommandsWriteOnlyTheirResults : ∃ t, exec .synd16 State.reset = .next t := ⟨_, rfl⟩

theorem witness_CmdChangesOnlyByLaunchOrReset :
    ∃ t, step { State.reset with inputs := [cmd .gf16Mul] } = .next t ∧ t.cmd ≠ 0 := ⟨_, rfl, by decide⟩

/-- WERR set and a host write of 1 to bit 4 of STATUS waiting. -/
def werrState : State :=
  { State.reset with status := State.reset.status.dropWrite, inputs := [wr 0x008 0x10] }

theorem witness_WerrIsSticky :
    ∃ t, step werrState = .next t ∧ werrState.status.werr = true ∧ t.status.werr = false := ⟨_, rfl, rfl, rfl⟩

theorem witness_DroppedWriteDoesNotTouchTheCommand :
    (busyState 2).status.busy = true ∧ (busyState 2).resetLine = false ∧
    (∃ t, hostEvent (.access (.write .w32 0xF 0x014 5)) (busyState 2) = .next t) ∧
    (∃ u, exec .gf256Mul (busyState 2) = .next u) ∧
    (0x014 : BitVec 16).toNat % 4 = 0 ∧ mappedOffset (0x014 : BitVec 16).toNat := by
  unfold mappedOffset
  exact ⟨rfl, rfl, ⟨_, rfl⟩, ⟨_, rfl⟩, by decide, by decide⟩

theorem witness_PollCountDoesNotMatter :
    State.reset.status.busy = false ∧ State.reset.resetLine = false ∧ State.reset.inputs = [] := by decide

end Sys2Proof.Tests
end

section
/-! SUPPORT. The arithmetic of DEINT (46_deinterleave.md R262 to R264): what admitted operands say of the counts, the
length of the stream of data words, and which bytes of RAW a gathered block reads. -/

namespace Sys2Proof.Machine

/-- What the checks of R260 give the arithmetic: the operands in range, and the stream as long as its blocks. -/
theorem deintAdmitted_bounds {total bs dw ns : Nat} (h : deintAdmitted total bs dw ns = true) :
    total ≤ 8896 ∧ dw < bs ∧ bs * blockCount total bs ns + longBlocks total bs ns ≤ total := by
  obtain ⟨htotal, -, hdw, -, hns, -⟩ := (deintAdmitted_iff _ _ _ _).1 h
  refine ⟨htotal, hdw, ?_⟩
  have hdiv : (bs + 1) * longBlocks total bs ns ≤ total - bs * ns := Nat.mul_div_le _ _
  calc bs * blockCount total bs ns + longBlocks total bs ns
      = (bs + 1) * longBlocks total bs ns + bs * ns := by unfold blockCount; ring
    _ ≤ total := by omega

/-- R263: the parity region starts inside the stream. -/
theorem parityOffset_le {total bs dw ns : Nat} (h : deintAdmitted total bs dw ns = true) :
    parityOffset total bs dw ns ≤ total := by
  obtain ⟨-, hdw, hsum⟩ := deintAdmitted_bounds h
  have := Nat.mul_le_mul_right (blockCount total bs ns) hdw.le
  unfold parityOffset
  omega

theorem longBlocks_le_blockCount (total bs ns : Nat) : longBlocks total bs ns ≤ blockCount total bs ns :=
  Nat.le_add_right _ _

/-- R263: at most 4448 long blocks and 255 short ones. -/
theorem blockCount_le {total bs ns : Nat} (htotal : total ≤ 8896) (hbs : bs ≠ 0) (hns : ns ≤ 255) :
    blockCount total bs ns ≤ 4703 := by
  have hlb : longBlocks total bs ns ≤ 8896 / 2 := Nat.div_le_div (by omega) (by omega) (by decide)
  unfold blockCount
  omega

/-- R263: the data words of a gathered block stand inside the stream. -/
theorem gather_data_lt {total bs dw ns j k : Nat} (h : deintAdmitted total bs dw ns = true)
    (hk : k < blockCount total bs ns) (hj : j < dataWordsOf dw ns k) : j * blockCount total bs ns + k < total := by
  obtain ⟨-, hdw, hsum⟩ := deintAdmitted_bounds h
  have hj' : j + 1 ≤ bs := by unfold dataWordsOf at hj; split at hj <;> omega
  have := Nat.mul_le_mul_right (blockCount total bs ns) hj'
  rw [Nat.succ_mul] at this
  omega

/-- R263: the parity words of a gathered block stand inside the stream. -/
theorem gather_parity_lt {total bs dw ns j k : Nat} (h : deintAdmitted total bs dw ns = true)
    (hk : k < blockCount total bs ns) (hj : j < parityCount bs dw) :
    parityOffset total bs dw ns + j * blockCount total bs ns + k < total := by
  obtain ⟨-, hdw, hsum⟩ := deintAdmitted_bounds h
  have hj' : dw + j + 1 ≤ bs := by unfold parityCount at hj; omega
  have := Nat.mul_le_mul_right (blockCount total bs ns) hj'
  rw [Nat.succ_mul, Nat.add_mul] at this
  unfold parityOffset
  omega

/-- A gathered block depends on the bytes of RAW below `total` alone. -/
theorem deintBlock_congr {raw₁ raw₂ : Nat → Byte} {total bs dw ns k : Nat}
    (h : deintAdmitted total bs dw ns = true) (hraw : ∀ i, i < total → raw₁ i = raw₂ i)
    (hk : k < blockCount total bs ns) :
    deintBlock raw₁ total bs dw ns k = deintBlock raw₂ total bs dw ns k := by
  have hgather :
      gather raw₁ (blockCount total bs ns) (parityOffset total bs dw ns) (dataWordsOf dw ns k) (parityCount bs dw) k =
        gather raw₂ (blockCount total bs ns) (parityOffset total bs dw ns) (dataWordsOf dw ns k)
          (parityCount bs dw) k := by
    unfold gather
    congr 1
    · exact List.map_congr_left fun j hj => hraw _ (gather_data_lt h hk (List.mem_range.1 hj))
    · exact List.map_congr_left fun j hj => hraw _ (gather_parity_lt h hk (List.mem_range.1 hj))
  unfold deintBlock
  rw [hgather]

/-- The blocks in order depend on the single blocks alone. -/
theorem deintBlocks_congr {raw₁ raw₂ : Nat → Byte} {total bs dw ns : Nat} {ks : List Nat}
    (h : ∀ k ∈ ks, deintBlock raw₁ total bs dw ns k = deintBlock raw₂ total bs dw ns k) :
    deintBlocks raw₁ total bs dw ns ks = deintBlocks raw₂ total bs dw ns ks := by
  induction ks with
  | nil => rfl
  | cons k ks ih =>
    rw [deintBlocks_cons, deintBlocks_cons, h k List.mem_cons_self,
      ih fun j hj => h j (List.mem_cons_of_mem _ hj)]

/-- R48, R263: the stream of data words depends on `RAW[0..total)` alone. -/
theorem deintStream_congr {raw₁ raw₂ : Nat → Byte} {total bs dw ns : Nat}
    (h : deintAdmitted total bs dw ns = true) (hraw : ∀ i, i < total → raw₁ i = raw₂ i) :
    deintStream raw₁ total bs dw ns = deintStream raw₂ total bs dw ns :=
  deintBlocks_congr fun _ hk => deintBlock_congr h hraw (List.mem_range.1 hk)

/-- Every corrected block contributes at most its data words. -/
theorem length_deintBlocks_le {raw : Nat → Byte} {total bs dw ns : Nat} {ks : List Nat} {ds : List Byte}
    (h : deintBlocks raw total bs dw ns ks = .ok ds) : ds.length ≤ (ks.map (dataWordsOf dw ns)).sum := by
  induction ks generalizing ds with
  | nil => cases h; simp
  | cons k ks ih =>
    rw [deintBlocks_cons] at h
    split at h
    · cases h
    · split at h
      · next es hes =>
        cases h
        have := ih hes
        simp only [List.length_append, List.length_take, List.map_cons, List.sum_cons]
        omega
      · cases h

/-- The data words of the first `n` blocks: `dw` each, and one more for every long block (R262). -/
theorem sum_dataWordsOf (dw ns n : Nat) : ((List.range n).map (dataWordsOf dw ns)).sum = dw * n + (n - ns) := by
  induction n with
  | zero => simp
  | succ n ih =>
    rw [List.range_succ, List.map_append, List.sum_append, ih]
    simp only [List.map_cons, List.map_nil, List.sum_cons, List.sum_nil, dataWordsOf, Nat.mul_succ]
    split <;> omega

/-- R263: the data words of all blocks fit in DATA. -/
theorem length_deintStream_le {raw : Nat → Byte} {total bs dw ns : Nat} {ds : List Byte}
    (hadm : deintAdmitted total bs dw ns = true) (h : deintStream raw total bs dw ns = .ok ds) :
    ds.length ≤ 8896 := by
  have hlen := length_deintBlocks_le h
  rw [sum_dataWordsOf] at hlen
  have heo := parityOffset_le hadm
  have := (deintAdmitted_bounds hadm).1
  unfold parityOffset at heo
  have : blockCount total bs ns - ns = longBlocks total bs ns := Nat.add_sub_cancel _ _
  omega

/-- A failing block is one of the `bc` blocks. -/
theorem deintStream_error_lt {raw : Nat → Byte} {total bs dw ns k : Nat}
    (h : deintStream raw total bs dw ns = .error k) : k < blockCount total bs ns :=
  List.mem_range.1 (deintBlocks_error_mem _ _ _ _ _ h).1

/-- R302's condition for DEINT is R260's check. -/
theorem badParam_deint_iff (s : State) :
    badParam .deint s ↔ deintAdmitted s.totalWords s.bs s.dw s.ns = false := by
  rw [← Bool.not_eq_true, deintAdmitted_iff]
  simp only [badParam, longBlocks, State.totalWords, State.bs, State.dw, State.ns]
  omega

end Sys2Proof.Machine
end

section
/-! SUPPORT. What a command can do before its report, said once for all ten as a case per kind of result, and the buffers
and registers each kind leaves alone (10_state.md R31, R49; 30_encoding.md R114). -/

namespace Sys2Proof.Machine

/-- The state a command can leave before the completion's report: `Effect s i u` says that command `i`, run from `s`,
can leave `u`. It keeps of each result what the frame and the invariant need: who writes it, and its bounds. -/
inductive Effect (s : State) : Instr → State → Prop
  /-- NOP, and every refused command -/
  | unchanged (i : Instr) : Effect s i s
  /-- the products (R167, R168) -/
  | product (i : Instr) (hi : i = .gf16Mul ∨ i = .gf256Mul) (r : Byte) : Effect s i { s with result := r }
  /-- the syndrome commands (R180, R182) -/
  | syndromes (i : Instr) (hi : i = .synd16 ∨ i = .synd256) (syn : Poly) (hlen : syn.length = 64) :
      Effect s i (s.storeSyndromes syn)
  /-- the solvers (R200, R202) -/
  | locator (i : Instr) (hi : i = .bm16 ∨ i = .bm256) (r : BmState) (hlen : r.C.length = 64) :
      Effect s i (s.storeLocator r)
  /-- FMT_DEC (R221) -/
  | format (f : FmtOut)
      (hf : f = FmtOut.none ∨ ∃ w loc, f = FmtOut.ofWord w loc ∧ anyNonzero (fmtSyndromes w) = false) :
      Effect s .fmtDec { s.unspecifyIntermediates with fmtOut := f }
  /-- RS_DEC (R241) -/
  | block (bytes : List Byte) (hlen : bytes.length ≤ 256) :
      Effect s .rsDec (s.writeBuf .blk bytes).unspecifyIntermediates
  /-- DEINT (R261) -/
  | stream (lb bc : Nat) (r : Except Nat (List Byte)) (hlb : lb ≤ bc) (hbc : bc ≤ 4703)
      (hok : ∀ d, r = .ok d → d.length ≤ 8896) (herr : ∀ k, r = .error k → k < bc) :
      Effect s .deint
        (State.storeStream { s with deintInfo := { lb := BitVec.ofNat 14 lb, bc := BitVec.ofNat 14 bc } }
          r bc).2.unspecifyIntermediates

/-- R222: a format word counts as corrected only when its syndromes are all zero. -/
theorem correctFormat_syndromes {u : BitVec 15} (h : (correctFormat u).2 = true) :
    anyNonzero (fmtSyndromes (correctFormat u).1) = false := by
  unfold correctFormat at h ⊢
  split
  · next hz => exact hz
  · next hz => simpa [hz] using h

theorem deintEffect_effect (s : State) : Effect s .deint (deintEffect s).2 := by
  obtain ⟨-, h⟩ | ⟨hadm, t, rfl, h⟩ := deintEffect_cases s <;> rw [h]
  · exact .unchanged _
  · obtain ⟨htotal, hbs, -⟩ := (deintAdmitted_iff _ _ _ _).1 hadm
    exact .stream _ _ _ (longBlocks_le_blockCount _ _ _)
      (blockCount_le htotal hbs (Nat.le_of_lt_succ s.rsNs.isLt))
      (fun _ => length_deintStream_le hadm) (fun _ => deintStream_error_lt)

/-- Every command answers with its report over one of its effects. -/
theorem exec_effect {i : Instr} {s t : State} (h : exec i s = .next t) :
    ∃ u c, Effect s i u ∧ t = u.complete c := by
  cases i with
  | nop => cases h; exact ⟨_, _, .unchanged _, rfl⟩
  | gf16Mul =>
    cases h
    refine ⟨_, _, ?_, rfl⟩
    obtain ⟨-, h⟩ | ⟨-, -, h⟩ := gf16MulEffect_cases s <;> rw [h]
    · exact .unchanged _
    · exact .product _ (.inl rfl) _
  | gf256Mul => cases h; exact ⟨_, _, .product _ (.inr rfl) _, rfl⟩
  | synd16 => cases h; exact ⟨_, _, .syndromes _ (.inl rfl) _ (length_fmtSyndromes _), rfl⟩
  | synd256 =>
    cases h
    refine ⟨_, _, ?_, rfl⟩
    obtain ⟨-, h⟩ | ⟨-, h⟩ := synd256Effect_cases s <;> rw [h]
    · exact .unchanged _
    · exact .syndromes _ (.inr rfl) _ (length_blkSyndromes _ _ _)
  | bm16 =>
    cases h
    refine ⟨_, _, ?_, rfl⟩
    obtain ⟨-, h⟩ | ⟨-, -, h⟩ := bm16Effect_cases s <;> rw [h]
    · exact .unchanged _
    · exact .locator _ (.inl rfl) _ (length_bm _ _ _).1
  | bm256 =>
    cases h
    refine ⟨_, _, ?_, rfl⟩
    obtain ⟨-, h⟩ | ⟨-, h⟩ := bm256Effect_cases s <;> rw [h]
    · exact .unchanged _
    · exact .locator _ (.inr rfl) _ (length_bm _ _ _).1
  | fmtDec =>
    cases h
    refine ⟨_, _, .format _ ?_, rfl⟩
    obtain ⟨ha, h⟩ | ⟨-, hb, h⟩ | ⟨-, -, h⟩ := decodeFormat_cases s.fmtA s.fmtB <;> rw [h]
    · exact .inr ⟨_, _, rfl, correctFormat_syndromes ha⟩
    · exact .inr ⟨_, _, rfl, correctFormat_syndromes hb⟩
    · exact .inl rfl
  | rsDec =>
    cases h
    refine ⟨_, _, ?_, rfl⟩
    obtain ⟨-, h⟩ | ⟨-, h⟩ := rsDecEffect_cases s <;> rw [h]
    · exact .unchanged _
    · refine .block _ ?_
      rw [length_correctBlock (State.length_bufPrefix _ _ _)]
      exact s.rsBs.isLt.le
  | deint => cases h; exact ⟨_, _, deintEffect_effect s, rfl⟩

/-! Buffer bytes that an operation on another buffer leaves. -/

theorem Buf.holds_base_add_of_ne {b c : Buf} (hne : b ≠ c) {k : Nat} (hk : k < b.size) :
    c.holds (b.base + k) = false := by
  rw [← Bool.not_eq_true, ← bufferAt_eq_some_iff, bufferAt_base_add b hk]
  simpa using hne

theorem State.buf_writeBuf_of_ne (s : State) {b c : Buf} (hne : b ≠ c) {vs : List Byte}
    (hlen : vs.length ≤ c.size) {k : Nat} (hk : k < b.size) : (s.writeBuf c vs).buf b k = s.buf b k := by
  have hout := Buf.holds_base_add_of_ne hne hk
  rw [← Bool.not_eq_true, Buf.holds_iff] at hout
  exact (s.byteAt_writeBuf c vs _).trans (if_neg fun h => hout ⟨h.1, by omega⟩)

theorem State.buf_unspecifyBuf_of_ne (s : State) {b c : Buf} (hne : b ≠ c) {k : Nat} (hk : k < b.size) :
    (s.unspecifyBuf c).buf b k = s.buf b k :=
  s.byteAt_unspecifyBuf c (Buf.holds_base_add_of_ne hne hk)

theorem State.buf_unspecifyIntermediates_of_ne (s : State) {b : Buf} (hs : b ≠ .s) (hsigma : b ≠ .sigma) {k : Nat}
    (hk : k < b.size) : s.unspecifyIntermediates.buf b k = s.buf b k :=
  s.byteAt_unspecifyIntermediates (Buf.holds_base_add_of_ne hs hk) (Buf.holds_base_add_of_ne hsigma hk)

/-- DEINT's result writes no buffer but DATA. -/
theorem State.buf_storeStream_of_ne (s : State) {r : Except Nat (List Byte)}
    (hok : ∀ d, r = .ok d → d.length ≤ 8896) (bc : Nat) {b : Buf} (hb : b ≠ .data) {k : Nat} (hk : k < b.size) :
    (s.storeStream r bc).2.buf b k = s.buf b k := by
  obtain ⟨d, hd, h⟩ | ⟨_, -, h⟩ := s.storeStream_cases r bc <;> rw [h]
  · exact (State.buf_writeBuf_of_ne (s.unspecifyBuf .data) hb (hok d hd) hk).trans
      (s.buf_unspecifyBuf_of_ne hb hk)
  · exact s.buf_unspecifyBuf_of_ne hb hk

/-- Which buffers a command can change: its own results, and S and SIGMA where R49 leaves them unspecified. -/
def commandChanges (i : Instr) (b : Buf) : Bool :=
  match b with
  | .s => i == .synd16 || i == .synd256 || i == .fmtDec || i == .rsDec || i == .deint
  | .sigma => i == .bm16 || i == .bm256 || i == .fmtDec || i == .rsDec || i == .deint
  | .blk => i == .rsDec
  | .raw => false
  | .data => i == .deint

theorem ne_of_commandChanges {i : Instr} {b c : Buf} (hb : commandChanges i b = false)
    (hc : commandChanges i c = true) : b ≠ c := by
  rintro rfl
  exact Bool.false_ne_true (hb.symm.trans hc)

/-- R31, R114: a command leaves every byte of the buffers that are not among its results. -/
theorem Effect.buf_eq {i : Instr} {s u : State} (h : Effect s i u) {b : Buf} (hb : commandChanges i b = false)
    {k : Nat} (hk : k < b.size) : u.buf b k = s.buf b k := by
  have hne {c : Buf} (hc : commandChanges i c = true) : b ≠ c := ne_of_commandChanges hb hc
  cases h with
  | unchanged => rfl
  | product => rfl
  | syndromes i hi syn hlen =>
    exact s.buf_writeBuf_of_ne (hne (by rcases hi with rfl | rfl <;> rfl)) hlen.le hk
  | locator i hi r hlen =>
    exact s.buf_writeBuf_of_ne (hne (by rcases hi with rfl | rfl <;> rfl)) hlen.le hk
  | format f hf => exact s.buf_unspecifyIntermediates_of_ne (hne rfl) (hne rfl) hk
  | block bytes hlen =>
    rw [State.buf_unspecifyIntermediates_of_ne _ (hne rfl) (hne rfl) hk]
    exact s.buf_writeBuf_of_ne (hne rfl) hlen hk
  | stream lb bc r hlb hbc hok herr =>
    rw [State.buf_unspecifyIntermediates_of_ne _ (hne rfl) (hne rfl) hk]
    exact State.buf_storeStream_of_ne _ hok bc (hne rfl) hk

end Sys2Proof.Machine
end

section
/-! SUPPORT. The frame of the commands: the registers a command leaves alone, and the statement of R31, R49 and R114. -/

namespace Sys2Proof.Machine

/-- DEINT's result writes nothing but DATA, DATA_BITS and BLOCK_IDX. -/
theorem State.storeStream_eq (s : State) (r : Except Nat (List Byte)) (bc : Nat) :
    ∃ mem gens draws dataBits blockIdx, (s.storeStream r bc).2 =
      { s with mem := mem, gens := gens, draws := draws, dataBits := dataBits, blockIdx := blockIdx } := by
  obtain ⟨d, -, h⟩ | ⟨k, -, h⟩ := s.storeStream_cases r bc <;> rw [h] <;> exact ⟨_, _, _, _, _, rfl⟩

/-- The operand and control registers, WERR, and what stands around the machine: no command writes any of it. -/
structure SameOperands (s t : State) : Prop where
  cmd : t.cmd = s.cmd
  irqEn : t.irqEn = s.irqEn
  opa : t.opa = s.opa
  opb : t.opb = s.opb
  fmtA : t.fmtA = s.fmtA
  fmtB : t.fmtB = s.fmtB
  synN : t.synN = s.synN
  rsBs : t.rsBs = s.rsBs
  rsDw : t.rsDw = s.rsDw
  rsNs : t.rsNs = s.rsNs
  total : t.total = s.total
  werr : t.status.werr = s.status.werr
  resetLine : t.resetLine = s.resetLine
  inputs : t.inputs = s.inputs
  answers : t.answers = s.answers

/-- R31, R114: every command leaves its operands. -/
theorem Effect.sameOperands {i : Instr} {s u : State} (h : Effect s i u) : SameOperands s u := by
  cases h with
  | unchanged | product | syndromes | locator | format | block => constructor <;> rfl
  | stream lb bc r =>
    obtain ⟨mem, gens, draws, dataBits, blockIdx, hr⟩ := State.storeStream_eq _ r bc
    rw [hr]
    constructor <;> rfl

theorem Effect.result_eq {i : Instr} {s u : State} (h : Effect s i u) (h16 : i ≠ .gf16Mul) (h256 : i ≠ .gf256Mul) :
    u.result = s.result := by
  cases h with
  | unchanged | syndromes | locator | format | block => rfl
  | product i hi => exact absurd hi (by simp [h16, h256])
  | stream lb bc r =>
    obtain ⟨mem, gens, draws, dataBits, blockIdx, hr⟩ := State.storeStream_eq _ r bc
    rw [hr]
    rfl

theorem Effect.fmtOut_eq {i : Instr} {s u : State} (h : Effect s i u) (hi : i ≠ .fmtDec) : u.fmtOut = s.fmtOut := by
  cases h with
  | unchanged | product | syndromes | locator | block => rfl
  | format => exact absurd rfl hi
  | stream lb bc r =>
    obtain ⟨mem, gens, draws, dataBits, blockIdx, hr⟩ := State.storeStream_eq _ r bc
    rw [hr]
    rfl

theorem Effect.counts_eq {i : Instr} {s u : State} (h : Effect s i u) (hi : i ≠ .deint) :
    u.dataBits = s.dataBits ∧ u.blockIdx = s.blockIdx ∧ u.deintInfo = s.deintInfo := by
  cases h with
  | unchanged | product | syndromes | locator | format | block => exact ⟨rfl, rfl, rfl⟩
  | stream => exact absurd rfl hi

/-- NZ changes with S alone. -/
theorem Effect.nz_eq {i : Instr} {s u : State} (h : Effect s i u) (hs : commandChanges i .s = false) :
    u.status.nz = s.status.nz := by
  cases h with
  | unchanged | product | locator => rfl
  | syndromes i hi => rcases hi with rfl | rfl <;> cases hs
  | format | block | stream => cases hs

/-- BM_L changes with SIGMA alone. -/
theorem Effect.bmL_eq {i : Instr} {s u : State} (h : Effect s i u) (hsigma : commandChanges i .sigma = false) :
    u.bmL = s.bmL := by
  cases h with
  | unchanged | product | syndromes => rfl
  | locator i hi => rcases hi with rfl | rfl <;> cases hsigma
  | format | block | stream => cases hsigma

/-- Settles O53, from the effect of each command and the frame of each kind of effect. -/
theorem commandsWriteOnlyTheirResults : Obligations.CommandsWriteOnlyTheirResults := by
  intro i s t h
  obtain ⟨u, c, he, rfl⟩ := exec_effect h
  have hbuf {b : Buf} (hb : commandChanges i b = false) (k : Nat) (hk : k < b.size) :
      (u.complete c).buf b k = s.buf b k := he.buf_eq hb hk
  have hf := he.sameOperands
  refine ⟨⟨hf.cmd, hf.irqEn, hf.opa, hf.opb, hf.fmtA, hf.fmtB, hf.synN, hf.rsBs, hf.rsDw, hf.rsNs, hf.total,
      hf.werr, hf.resetLine, hf.inputs, hf.answers⟩,
    hbuf (b := .raw) rfl, he.result_eq, he.fmtOut_eq, fun hi => hbuf (b := .blk) (by simpa [commandChanges] using hi),
    fun hi => ?_, fun h1 h2 h3 h4 h5 => ?_, fun h1 h2 h3 h4 h5 => ?_⟩
  · obtain ⟨hbits, hidx, hinfo⟩ := he.counts_eq hi
    exact ⟨hbits, hidx, hinfo, hbuf (b := .data) (by simpa [commandChanges] using hi)⟩
  · have hs : commandChanges i .s = false := by simp [commandChanges, h1, h2, h3, h4, h5]
    exact ⟨he.nz_eq hs, hbuf hs⟩
  · have hsigma : commandChanges i .sigma = false := by simp [commandChanges, h1, h2, h3, h4, h5]
    exact ⟨he.bmL_eq hsigma, hbuf hsigma⟩

end Sys2Proof.Machine
end

section
/-! SUPPORT. DEINT's results as functions of its operands and RAW (46_deinterleave.md R261, R263). -/

namespace Sys2Proof.Machine

/-- Every valid byte of DATA after a stream that ended without a failure (R261). -/
theorem State.buf_storeStream_ok (s : State) (d : List Byte) (bc : Nat) {i : Nat} (hi : i < d.length)
    (hsize : d.length ≤ 8896) :
    (s.storeStream (.ok d) bc).2.unspecifyIntermediates.buf .data i = d.getD i 0 := by
  have hdata : i < Buf.data.size := hi.trans_le hsize
  rw [State.buf_unspecifyIntermediates_of_ne _ (by decide) (by decide) hdata]
  refine (State.byteAt_writeBuf (s.unspecifyBuf .data) .data d _).trans ?_
  rw [if_pos ⟨by omega, by omega⟩, Nat.add_sub_cancel_left]

/-- What DEINT on admitted operands answers (R261), with the stream that decides it named. -/
theorem exec_deint_of_admitted {s t : State} (hadm : deintAdmitted s.totalWords s.bs s.dw s.ns = true)
    (h : exec .deint s = .next t) :
    ∃ u : State, u = { s with deintInfo := { lb := BitVec.ofNat 14 (longBlocks s.totalWords s.bs s.ns)
                                             bc := BitVec.ofNat 14 (blockCount s.totalWords s.bs s.ns) } } ∧
      t = (u.storeStream (deintStream (s.buf .raw) s.totalWords s.bs s.dw s.ns)
            (blockCount s.totalWords s.bs s.ns)).2.unspecifyIntermediates.complete
          (u.storeStream (deintStream (s.buf .raw) s.totalWords s.bs s.dw s.ns)
            (blockCount s.totalWords s.bs s.ns)).1 := by
  obtain ⟨hno, -⟩ | ⟨-, u, hu, he⟩ := deintEffect_cases s
  · rw [hadm] at hno; cases hno
  · rw [exec_deint, he] at h
    cases h
    exact ⟨u, hu, rfl⟩

/-- The valid bits of DATA_BITS name bytes that the stream wrote. -/
theorem lt_length_of_dataBits {i n : Nat} (h : 8 * i < (BitVec.ofNat 17 (8 * n)).toNat) : i < n := by
  have := Nat.mod_le (8 * n) (2 ^ 17)
  rw [BitVec.toNat_ofNat] at h
  omega

/-- Settles O37: the stream of data words, which decides every result, reads no byte of RAW from `total` on (R263). -/
theorem deintDependsOnOperandsOnly : Obligations.DeintDependsOnOperandsOnly := by
  intro s₁ s₂ t₁ t₂ hgood htotal hbs hdw hns hraw h₁ h₂
  have hadm₁ : deintAdmitted s₁.totalWords s₁.bs s₁.dw s₁.ns = true := by
    simpa [badParam_deint_iff] using hgood
  have etotal : s₂.totalWords = s₁.totalWords := congrArg BitVec.toNat htotal.symm
  have ebs : s₂.bs = s₁.bs := congrArg BitVec.toNat hbs.symm
  have edw : s₂.dw = s₁.dw := congrArg BitVec.toNat hdw.symm
  have ens : s₂.ns = s₁.ns := congrArg BitVec.toNat hns.symm
  have hadm₂ : deintAdmitted s₂.totalWords s₂.bs s₂.dw s₂.ns = true := by rw [etotal, ebs, edw, ens]; exact hadm₁
  have hstream : deintStream (s₂.buf .raw) s₁.totalWords s₁.bs s₁.dw s₁.ns =
      deintStream (s₁.buf .raw) s₁.totalWords s₁.bs s₁.dw s₁.ns :=
    (deintStream_congr hadm₁ hraw).symm
  obtain ⟨u₁, hu₁, rfl⟩ := exec_deint_of_admitted hadm₁ h₁
  obtain ⟨u₂, hu₂, rfl⟩ := exec_deint_of_admitted hadm₂ h₂
  rw [etotal, ebs, ens] at hu₂
  rw [etotal, ebs, edw, ens, hstream]
  cases hr : deintStream (s₁.buf .raw) s₁.totalWords s₁.bs s₁.dw s₁.ns with
  | ok d =>
    have hlen := length_deintStream_le hadm₁ hr
    refine ⟨rfl, rfl, rfl, by rw [hu₁, hu₂]; rfl, fun i hi => ?_⟩
    have hid : i < d.length := lt_length_of_dataBits hi
    exact (u₁.buf_storeStream_ok d _ hid hlen).trans (u₂.buf_storeStream_ok d _ hid hlen).symm
  | error k =>
    refine ⟨rfl, rfl, rfl, by rw [hu₁, hu₂]; rfl, fun i hi => ?_⟩
    exact absurd hi (Nat.not_lt_zero _)

end Sys2Proof.Machine
end

section
/-! SUPPORT. What one input from outside can do, said once: which accesses reach a register or a buffer word, and the
state each leaves (20_memory.md R81 to R88, 40_command_lifecycle.md R142, 70_reset_and_hazards.md R330). -/

namespace Sys2Proof.Machine

/-- R32: the register at place `k` of the map stands at offset `4 * k`. -/
theorem offset_of_registers_getElem? {k : Nat} {r : Reg} (h : registers[k]? = some r) : r.offset = 4 * k := by
  have hmap : registers.map Reg.offset = (List.range 20).map (4 * ·) := by decide
  have hk : k < 20 := (List.getElem?_eq_some_iff.1 h).1
  have := congrArg (·[k]?) hmap
  simpa [h, hk] using this

/-- An aligned offset that reaches a register is that register's. -/
theorem targetAt_eq_reg {a : Nat} {r : Reg} (ha : a % 4 = 0) (h : targetAt a = some (.reg r)) : a = r.offset := by
  unfold targetAt at h
  split at h
  · obtain ⟨r', hr', e⟩ := Option.map_eq_some_iff.1 h
    cases e
    have := offset_of_registers_getElem? hr'
    omega
  · split at h <;> cases h

theorem targetAt_eq_bytes {a b : Nat} (h : targetAt a = some (.bytes b)) : b = a ∧ (bufferAt a).isSome = true := by
  unfold targetAt at h
  split at h
  · obtain ⟨r', -, e⟩ := Option.map_eq_some_iff.1 h
    cases e
  · split at h
    · next hb => cases h; exact ⟨rfl, hb⟩
    · cases h

theorem writeTarget_eq_some {width : Width} {lanes : BitVec 4} {off : BitVec 16} {t : Target}
    (h : writeTarget width lanes off = some t) :
    width = .w32 ∧ lanes = 0xF ∧ off.toNat % 4 = 0 ∧ targetAt off.toNat = some t := by
  unfold writeTarget readTarget at h
  split at h
  · next hl =>
    split at h
    · next hw => exact ⟨hw.1, hl, hw.2, h⟩
    · cases h
  · cases h

/-- The state an input can leave: `HostEffect s e t` says that input `e`, reaching `s`, can leave `t`. -/
inductive HostEffect (s : State) : Event → State → Prop
  /-- R83 to R85: a bus error, or a read of any kind; at most the model's count of draws moves (R87) -/
  | noEffect (a : Access) (r : Answer) (draws : Nat) (hdraws : s.draws ≤ draws) (hreset : s.resetLine = false) :
      HostEffect s (.access a) { s with draws := draws, answers := r :: s.answers }
  /-- R142: a write dropped while busy -/
  | dropped (a : Access) (hreset : s.resetLine = false) :
      HostEffect s (.access a) { s with status := s.status.dropWrite, answers := .written :: s.answers }
  /-- R32, R142: a write that acts on a register -/
  | register (r : Reg) (v : Word) (hbusy : s.status.busy = false ∨ r.writableWhileBusy = true)
      (hreset : s.resetLine = false) :
      HostEffect s (.access (.write .w32 0xF (BitVec.ofNat 16 r.offset) v))
        (State.answer (.written, s.writeReg r v))
  /-- R86: a write of an aligned word inside a buffer -/
  | bufferWord (a : Access) (x : Nat) (v : Word) (halign : x % 4 = 0) (hbuf : (bufferAt x).isSome = true)
      (hreset : s.resetLine = false) :
      HostEffect s (.access a)
        { s with mem := s.mem.writeRange x (wordBytes v), answers := .written :: s.answers }
  /-- R330: the reset line asserted, or deasserted while asserted -/
  | reset (asserted : Bool) : HostEffect s (.resetLine asserted) (s.resetTo asserted)
  /-- log 7: the reset line deasserted while it is not asserted -/
  | lineUnchanged (asserted : Bool) : HostEffect s (.resetLine asserted) s

theorem access_hostEffect {s : State} (a : Access) (hreset : s.resetLine = false) :
    HostEffect s (.access a) (State.answer (s.access a)) := by
  cases a with
  | read width off =>
    obtain ⟨-, h⟩ | ⟨_, -, -, -, h⟩ | ⟨_, -, -, h⟩ := s.busRead_cases width off <;> rw [State.access, h]
    · exact .noEffect _ _ _ le_rfl hreset
    · exact .noEffect _ _ _ (Nat.le_succ _) hreset
    · exact .noEffect _ _ _ le_rfl hreset
  | write width lanes off v =>
    obtain ⟨-, h⟩ | ⟨_, -, -, -, h⟩ | ⟨t, ht, hbusy, h⟩ := s.busWrite_cases width lanes off v <;>
      rw [State.access, h]
    · exact .noEffect _ _ _ le_rfl hreset
    · exact .dropped _ hreset
    · obtain ⟨rfl, rfl, halign, ht⟩ := writeTarget_eq_some ht
      cases t with
      | reg r =>
        have hoff : off = BitVec.ofNat 16 r.offset := by
          rw [← targetAt_eq_reg halign ht, BitVec.ofNat_toNat, BitVec.setWidth_eq]
        exact hoff ▸ .register r v hbusy hreset
      | bytes x =>
        obtain ⟨rfl, hbuf⟩ := targetAt_eq_bytes ht
        exact .bufferWord _ _ v halign hbuf hreset

/-- Every input that answers a next state leaves one of these. -/
theorem hostEvent_hostEffect {e : Event} {s t : State} (h : hostEvent e s = .next t) : HostEffect s e t := by
  obtain ⟨a, -, -, he⟩ | ⟨a, rfl, hreset, he⟩ | ⟨b, rfl, he⟩ := hostEvent_cases e s <;> rw [he] at h <;> cases h
  · exact access_hostEffect a hreset
  · unfold State.setResetLine
    split
    · exact .reset b
    · exact .lineUnchanged b

end Sys2Proof.Machine
end

section
/-! SUPPORT. The invariant `State.Inv` (Safety): one rule per operation of the state, then the commands and the inputs. -/

namespace Sys2Proof.Machine

/-- The values of the codes QRCORE produces (R300). -/
theorem ErrCode.code_produced (c : ErrCode) :
    c.code = 0 ∨ c.code = 3 ∨ c.code = 4 ∨ c.code = 8 ∨ c.code = 9 := by
  cases c <;> decide

/-- A count below R263's bound fits the 14 bits of its register. -/
theorem toNat_ofNat_count {n : Nat} (h : n ≤ 4703) : (BitVec.ofNat 14 n).toNat = n := by
  rw [BitVec.toNat_ofNat, Nat.mod_eq_of_lt (by omega)]

/-- A state out of reset meets the invariant's clause on the reset input. -/
theorem State.inReset_of_not {s : State} (hr : s.resetLine = false) :
    s.resetLine = true → s = { State.reset with
      resetLine := true, gens := s.gens, draws := s.draws, inputs := s.inputs, answers := s.answers } :=
  fun h => absurd h (by simp [hr])

theorem State.Inv.resetLine_of_busy {s : State} (h : s.Inv) (hb : s.status.busy = true) : s.resetLine = false := by
  rw [← Bool.not_eq_true]
  intro hr
  rw [h.inReset hr] at hb
  cases hb

/-- What is still to come of the host's inputs is not the machine's. -/
theorem State.Inv.setInputs {s : State} (h : s.Inv) (is : List Input) : ({ s with inputs := is } : State).Inv :=
  { h with inReset := fun hr => congrArg (fun t : State => { t with inputs := is }) (h.inReset hr) }

theorem State.Inv.launch {s : State} (h : s.Inv) (hr : s.resetLine = false) (w : Word) : (s.launch w).Inv :=
  { h with
    busyClean := fun _ => ⟨rfl, rfl, rfl⟩
    errIff := by simp
    codes := .inl rfl
    errDone := by simp
    inReset := State.inReset_of_not hr }

/-- R143, R300: the report of a completion. -/
theorem State.Inv.complete {s : State} (h : s.Inv) (hr : s.resetLine = false) (c : ErrCode) : (s.complete c).Inv :=
  { h with
    busyClean := by simp
    errIff := by simp
    codes := c.code_produced
    errDone := fun _ => rfl
    inReset := State.inReset_of_not hr }

/-- Addresses of a buffer lie in a buffer. -/
theorem bufferAt_isSome_of_mem (b : Buf) {x : Nat} (h1 : b.base ≤ x) (h2 : x < b.base + b.size) :
    (bufferAt x).isSome = true := by
  rw [(bufferAt_eq_some_iff x b).2 ((b.holds_iff x).2 ⟨h1, h2⟩)]
  rfl

theorem State.Inv.writeRange {s : State} (h : s.Inv) (hr : s.resetLine = false) {a : Nat} {vs : List Byte}
    (hin : ∀ x, a ≤ x → x < a + vs.length → (bufferAt x).isSome = true) :
    ({ s with mem := s.mem.writeRange a vs } : State).Inv :=
  { h with
    memWf := Memory.wf_writeRange h.memWf a vs hin
    inReset := State.inReset_of_not hr }

theorem State.Inv.writeBuf {s : State} (h : s.Inv) (hr : s.resetLine = false) {b : Buf} {vs : List Byte}
    (hlen : vs.length ≤ b.size) : (s.writeBuf b vs).Inv :=
  h.writeRange hr fun _ h1 h2 => bufferAt_isSome_of_mem b h1 (by omega)

theorem State.Inv.unspecifyBuf {s : State} (h : s.Inv) (hr : s.resetLine = false) (b : Buf) :
    (s.unspecifyBuf b).Inv :=
  { h with
    memWf := Memory.wf_eraseRange h.memWf _ _
    gensOld := fun c => by
      have := h.gensOld c
      rw [State.unspecifyBuf_gens, State.unspecifyBuf_draws, Gens.of_set]
      split <;> omega
    inReset := State.inReset_of_not hr }

theorem State.Inv.unspecifyIntermediates {s : State} (h : s.Inv) (hr : s.resetLine = false) :
    s.unspecifyIntermediates.Inv :=
  { (h.unspecifyBuf hr .s).unspecifyBuf hr .sigma with inReset := State.inReset_of_not hr }

/-- R263: a finished run of DEINT leaves whole bytes in DATA and an index below the block count's bound. -/
theorem State.Inv.storeStream {s : State} (h : s.Inv) (hr : s.resetLine = false) {r : Except Nat (List Byte)}
    {bc : Nat} (hbc : bc ≤ 4703) (hok : ∀ d, r = .ok d → d.length ≤ 8896) (herr : ∀ k, r = .error k → k < bc) :
    (s.storeStream r bc).2.Inv := by
  have hfree := h.unspecifyBuf hr .data
  obtain ⟨hlb, hbcOld, -⟩ := h.counts
  obtain ⟨d, hd, e⟩ | ⟨k, hk, e⟩ := s.storeStream_cases r bc <;> rw [e]
  · have hlen := hok d hd
    have hbits : (BitVec.ofNat 17 (8 * d.length)).toNat = 8 * d.length := by
      rw [BitVec.toNat_ofNat, Nat.mod_eq_of_lt (by omega)]
    exact { hfree.writeBuf hr (b := .data) hlen with
      dataBits := ⟨hbits.trans_le (by omega), by rw [hbits]; omega⟩
      counts := ⟨hlb, hbcOld, (toNat_ofNat_count hbc).trans_le hbc⟩
      inReset := State.inReset_of_not hr }
  · have hkLe : k ≤ 4703 := (herr k hk).le.trans hbc
    exact { hfree with
      dataBits := ⟨Nat.zero_le _, rfl⟩
      counts := ⟨hlb, hbcOld, (toNat_ofNat_count hkLe).trans_le hkLe⟩
      inReset := State.inReset_of_not hr }

/-- Every command's effect keeps the invariant. -/
theorem State.Inv.effect {i : Instr} {s u : State} (h : s.Inv) (hr : s.resetLine = false) (he : Effect s i u) :
    u.Inv := by
  cases he with
  | unchanged => exact h
  | product => exact { h with inReset := State.inReset_of_not hr }
  | syndromes i hi syn hlen =>
    exact { h.writeBuf hr (b := .s) hlen.le with inReset := State.inReset_of_not hr }
  | locator i hi r hlen =>
    exact { h.writeBuf hr (b := .sigma) hlen.le with inReset := State.inReset_of_not hr }
  | format f hf =>
    exact { h.unspecifyIntermediates hr with fmtOut := hf, inReset := State.inReset_of_not hr }
  | block bytes hlen => exact (h.writeBuf hr (b := .blk) hlen).unspecifyIntermediates hr
  | stream lb bc r hlb hbc hok herr =>
    have hinfo : ({ s with deintInfo := { lb := BitVec.ofNat 14 lb, bc := BitVec.ofNat 14 bc } } : State).Inv :=
      { h with
        counts := by
          rw [toNat_ofNat_count hbc, toNat_ofNat_count (hlb.trans hbc)]
          exact ⟨hlb, hbc, h.counts.2.2⟩
        inReset := State.inReset_of_not hr }
    refine (hinfo.storeStream hr hbc hok herr).unspecifyIntermediates ?_
    obtain ⟨mem, gens, draws, dataBits, blockIdx, e⟩ := State.storeStream_eq _ r bc
    rw [e]
    exact hr

/-- A write that acts on a register keeps the invariant. -/
theorem State.Inv.writeReg {s : State} (h : s.Inv) (hr : s.resetLine = false) (r : Reg) (v : Word) :
    (s.writeReg r v).Inv := by
  cases r with
  | id | result | fmtOut | bmL | dataBits | blockIdx | deintInfo => exact h
  | cmd => exact h.launch hr v
  | status | irqEn | irqPend | opa | opb | fmtA | fmtB | synN | rsBs | rsDw | rsNs | total =>
    exact { h with inReset := State.inReset_of_not hr }

theorem State.Inv.answer {a : Answer} {s : State} (h : s.Inv) (hr : s.resetLine = false) :
    (State.answer (a, s)).Inv :=
  { h with inReset := State.inReset_of_not hr }

@[simp] theorem State.writeReg_resetLine (s : State) (r : Reg) (v : Word) :
    (s.writeReg r v).resetLine = s.resetLine := by cases r <;> rfl

/-- The buffers begin and end at multiples of 4, so an aligned word that begins in one lies in it (R81). -/
theorem bufferAt_isSome_of_aligned {a x : Nat} (halign : a % 4 = 0) (hbuf : (bufferAt a).isSome = true)
    (h1 : a ≤ x) (h2 : x < a + 4) : (bufferAt x).isSome = true := by
  obtain ⟨b, hb⟩ := Option.isSome_iff_exists.1 hbuf
  rw [bufferAt_eq_some_iff, Buf.holds_iff] at hb
  have hbounds : b.base % 4 = 0 ∧ b.size % 4 = 0 := by cases b <;> decide
  exact bufferAt_isSome_of_mem b (by omega) (by omega)

/-- The reset state is idle, with every register 0 and no byte written. -/
theorem State.inv_reset : State.reset.Inv where
  memWf := Memory.wf_nil
  gensOld b := by cases b <;> decide
  busyClean := by simp
  errIff := by decide
  codes := .inl rfl
  errDone := by decide
  fmtOut := .inl rfl
  dataBits := by decide
  counts := by decide
  inReset := State.inReset_of_not rfl

/-- Settles O51. -/
theorem invAtReset : Obligations.InvAtReset := State.inv_reset

/-- R330: the reset values meet the invariant, with the line asserted or not. -/
theorem State.inv_resetTo (s : State) (asserted : Bool) : (s.resetTo asserted).Inv :=
  { State.inv_reset with
    gensOld := fun b => by rw [State.resetTo_gens, State.resetTo_draws]; omega
    inReset := fun (h : asserted = true) => by subst h; rfl }

/-- Every input that answers keeps the invariant. -/
theorem State.Inv.hostEffect {e : Event} {s t : State} (h : s.Inv) (he : HostEffect s e t) : t.Inv := by
  cases he with
  | noEffect a r draws hdraws hr =>
    exact { h with
      gensOld := fun b => (h.gensOld b).trans_le hdraws
      inReset := State.inReset_of_not hr }
  | dropped a hr => exact { h with inReset := State.inReset_of_not hr }
  | register r v hbusy hr => exact (h.writeReg hr r v).answer (by simp [hr])
  | bufferWord a x v halign hbuf hr =>
    exact (h.writeRange (vs := wordBytes v) hr fun _ => bufferAt_isSome_of_aligned halign hbuf).answer hr
  | reset asserted => exact s.inv_resetTo asserted
  | lineUnchanged => exact h

/-- Settles O52, by the cases of a step: the engine's completion, whose effect keeps the invariant, or one input. -/
theorem stepKeepsInv : Obligations.StepKeepsInv := by
  intro s t h hstep
  obtain ⟨hturn, i, -, hexec⟩ | ⟨hturn, -, rfl⟩ | ⟨-, -, rfl⟩ | ⟨-, x, xs, -, hx⟩ := step_next_cases hstep
  · have hr := h.resetLine_of_busy (State.busy_of_engineTurn hturn)
    obtain ⟨u, c, he, rfl⟩ := exec_effect hexec
    exact (h.effect hr he).complete (he.sameOperands.resetLine.trans hr) c
  · exact h.complete (h.resetLine_of_busy (State.busy_of_engineTurn hturn)) .illegalCmd
  · exact h
  · exact (h.setInputs xs).hostEffect (hostEvent_hostEffect hx)

end Sys2Proof.Machine
end

section
/-! SUPPORT. What changes CMD and WERR over the whole machine (10_state.md R34, R35). -/

namespace Sys2Proof.Machine

/-- The engine's own step leaves CMD and WERR. -/
theorem execute_cmd_werr {w : Word} {s t : State} (h : execute w s = .next t) :
    t.cmd = s.cmd ∧ t.status.werr = s.status.werr := by
  obtain ⟨u, c, he, hcmd, -, hwerr, -⟩ := execute_completes w s
  rw [he] at h
  cases h
  exact ⟨hcmd, hwerr⟩

/-- A step that changes CMD or clears WERR is the host's, and has an input. -/
theorem step_hostEffect_of_change {s t : State} (h : step s = .next t)
    (hchange : ¬ (t.cmd = s.cmd ∧ t.status.werr = s.status.werr)) :
    s.engineTurn = false ∧ ∃ x xs, s.inputs = x :: xs ∧ HostEffect { s with inputs := xs } x.event t := by
  cases hturn : s.engineTurn with
  | true =>
    rw [step_of_engineTurn hturn] at h
    exact absurd (execute_cmd_werr h) hchange
  | false =>
    obtain ⟨ht, -⟩ | ⟨ht, -⟩ | ⟨-, -, rfl⟩ | ⟨-, x, xs, hxs, hx⟩ := step_next_cases h
    · simp [hturn] at ht
    · simp [hturn] at ht
    · exact absurd ⟨rfl, rfl⟩ hchange
    · exact ⟨rfl, x, xs, hxs, hostEvent_hostEffect hx⟩

theorem State.writeReg_cmd_of_ne (s : State) {r : Reg} (hr : r ≠ .cmd) (v : Word) :
    (s.writeReg r v).cmd = s.cmd := by
  cases r with
  | cmd => exact absurd rfl hr
  | _ => rfl

theorem State.writeReg_werr_of_ne (s : State) {r : Reg} (hr : r ≠ .status) (v : Word) :
    (s.writeReg r v).status.werr = s.status.werr := by
  cases r with
  | status => exact absurd rfl hr
  | _ => rfl

/-- Settles O54: of all inputs only a write that acts on the register CMD, and reset, change CMD. -/
theorem cmdChangesOnlyByLaunchOrReset : Obligations.CmdChangesOnlyByLaunchOrReset := by
  intro s t h hne
  obtain ⟨hturn, x, xs, hxs, he⟩ := step_hostEffect_of_change h fun hsame => hne hsame.1
  refine ⟨hturn, x, xs, hxs, ?_⟩
  generalize x.event = e at he
  cases he with
  | noEffect | dropped | bufferWord | lineUnchanged => exact absurd rfl hne
  | register r v hbusy =>
    by_cases hr : r = .cmd
    · subst hr
      obtain hidle | hw := hbusy
      · exact .inl ⟨v, rfl, hidle, rfl, rfl⟩
      · cases hw
    · exact absurd (State.writeReg_cmd_of_ne _ hr v) hne
  | reset b => exact .inr ⟨b, rfl⟩

/-- Settles O55: of all inputs only a write of 1 to bit 4 that acts on STATUS, and reset, clear WERR. -/
theorem werrIsSticky : Obligations.WerrIsSticky := by
  intro s t h hset hclear
  obtain ⟨hturn, x, xs, hxs, he⟩ := step_hostEffect_of_change h fun hsame => by
    rw [hsame.2, hset] at hclear
    cases hclear
  refine ⟨hturn, x, xs, hxs, ?_⟩
  generalize x.event = e at he
  cases he with
  | noEffect | bufferWord | lineUnchanged => exact absurd (hset.symm.trans hclear) (by decide)
  | dropped => cases hclear
  | register r v =>
    by_cases hr : r = .status
    · subst hr
      have hbit : (s.status.werr && !v.getLsbD 4) = false := hclear
      exact .inl ⟨v, rfl, by simpa [hset] using hbit⟩
    · have hkeep := State.writeReg_werr_of_ne { s with inputs := xs } hr v
      exact absurd (hset.symm.trans (hkeep.symm.trans hclear)) (by decide)
  | reset b => exact .inr ⟨b, rfl⟩

end Sys2Proof.Machine
end

section
/-! SUPPORT. The registers as the host sees them (10_state.md R32 to R58): packed fields as numbers, reads, writes and
reset values. -/

namespace Sys2Proof.Machine

/-- A concatenation as a number: the upper part times the place of its lowest bit, plus the lower part. -/
theorem toNat_append_eq_add {m n : Nat} (x : BitVec m) (y : BitVec n) :
    (x ++ y).toNat = x.toNat * 2 ^ n + y.toNat := by
  rw [BitVec.toNat_append, ← Nat.shiftLeft_add_eq_or_of_lt y.isLt, Nat.shiftLeft_eq]

/-- R35: STATUS as a number. -/
theorem Status.toNat_toWord (t : Status) : t.toWord.toNat =
    t.busy.toNat + 2 * t.done.toNat + 4 * t.err.toNat + 8 * t.nz.toNat + 16 * t.werr.toNat
      + 256 * t.errCode.toNat := by
  simp only [Status.toWord, toNat_append_eq_add, BitVec.toNat_ofBool, BitVec.toNat_ofNat]
  omega

/-- R45: FMT_OUT as a number. -/
theorem FmtOut.toNat_toWord (f : FmtOut) : f.toWord.toNat =
    f.word.toNat + 65536 * f.eccLevel.toNat + 1048576 * f.mask.toNat + 16777216 * f.loc.toNat
      + 2147483648 * f.valid.toNat := by
  simp only [FmtOut.toWord, toNat_append_eq_add, BitVec.toNat_ofBool, BitVec.toNat_ofNat]
  omega

/-- R54: DEINT_INFO as a number. -/
theorem DeintInfo.toNat_toWord (d : DeintInfo) : d.toWord.toNat = d.lb.toNat + 65536 * d.bc.toNat := by
  simp only [DeintInfo.toWord, toNat_append_eq_add, BitVec.toNat_ofNat]
  omega

/-- Settles O43, register by register. -/
theorem packedRegisterLayout : Obligations.PackedRegisterLayout := fun s =>
  ⟨s.status.toNat_toWord, s.fmtOut.toNat_toWord, s.deintInfo.toNat_toWord⟩

/-- Settles O58: an idle read of a register's offset answers `readReg`, whose numbers are the listed ones. -/
theorem idleReadsReturnTheRegister : Obligations.IdleReadsReturnTheRegister := by
  intro s off value hbusy hreset hmem
  have hmap : ∃ r ∈ registers, (BitVec.ofNat 16 r.offset, (s.readReg r).toNat) = (off, value) := by
    rw [← List.mem_map]
    simpa [registers, Reg.offset, State.readReg, idValue, Status.toNat_toWord, FmtOut.toNat_toWord,
      DeintInfo.toNat_toWord, BitVec.toNat_setWidth_of_le, -BitVec.toNat_setWidth] using hmem
  obtain ⟨r, -, hr⟩ := hmap
  cases hr
  exact ⟨s.readReg r, rfl, hostEvent_read_idle r hbusy hreset⟩

/-- Settles O44: an idle write to a register's offset does what `writeReg` says of that register. -/
theorem idleRegisterWrites : Obligations.IdleRegisterWrites := by
  rintro s v hbusy hreset t rfl
  have hwrite (r : Reg) := hostEvent_write_idle r v hbusy hreset
  have hlow {n : Nat} (hn : n ≤ 32) : v.extractLsb' 0 n = v.setWidth n := (BitVec.setWidth_eq_extractLsb' hn).symm
  refine ⟨⟨hwrite .status, hwrite .irqPend⟩, ?_, fun off hoff => ?_⟩
  · simp only [hlow, Nat.reduceLeDiff]
    exact ⟨hwrite .irqEn, hwrite .opa, hwrite .opb, hwrite .fmtA, hwrite .fmtB, hwrite .synN, hwrite .rsBs,
      hwrite .rsDw, hwrite .rsNs, hwrite .total⟩
  · simp only [List.mem_cons, List.not_mem_nil, or_false] at hoff
    obtain rfl | rfl | rfl | rfl | rfl | rfl | rfl := hoff
    exacts [hwrite .id, hwrite .result, hwrite .fmtOut, hwrite .bmL, hwrite .dataBits, hwrite .blockIdx,
      hwrite .deintInfo]

/-- Settles O46: every stored field of the reset state is 0, and ID is a constant. -/
theorem resetRegisterValues : Obligations.ResetRegisterValues := by
  refine ⟨rfl, fun r hr => ?_, rfl, rfl, rfl⟩
  cases r with
  | id => exact absurd rfl hr
  | _ => decide

end Sys2Proof.Machine
end

section
/-! SUPPORT. The field tables (10_state.md R41 to R44) against powers of `alpha = 2` computed without them. -/

namespace Sys2Proof.Machine

/-- The entries of R41 and R43 follow each other by a multiplication by `alpha`. -/
theorem exp16_succ : ∀ k, k < 14 → exp16 (k + 1) = polyProduct16 (exp16 k) 2 := by decide

theorem exp256_succ : ∀ k, k < 254 → exp256 (k + 1) = polyProduct256 (exp256 k) 2 := by decide +kernel

/-- A table that begins with 1 and follows by multiplications by `alpha` lists the powers of `alpha`. -/
theorem eq_alphaPower {mul : Byte → Byte → Byte} {exp : Nat → Byte} {n : Nat} (h0 : exp 0 = 1)
    (hsucc : ∀ k, k < n → exp (k + 1) = mul (exp k) 2) {k : Nat} (hk : k ≤ n) : exp k = alphaPower mul k := by
  induction k with
  | zero => exact h0
  | succ k ih => rw [hsucc k hk, ih (by omega), alphaPower]

theorem log16_exp16 : ∀ k, k < 15 → 1 ≤ k → log16 (exp16 k) = k := by decide

theorem log256_exp256 : ∀ k, k < 255 → 1 ≤ k → log256 (exp256 k) = k := by decide +kernel

/-- Settles O19, by the step from each entry of EXP to the next, and LOG entry by entry. -/
theorem tablesArePowersOfAlpha : Obligations.TablesArePowersOfAlpha :=
  ⟨fun _ hk => eq_alphaPower rfl exp16_succ (Nat.le_of_lt_succ hk), rfl,
    fun k h1 h2 => log16_exp16 k (Nat.lt_succ_of_le h2) h1, rfl, rfl,
    fun _ hk => eq_alphaPower rfl exp256_succ (Nat.le_of_lt_succ hk), rfl,
    fun k h1 h2 => log256_exp256 k (Nat.lt_succ_of_le h2) h1, rfl, rfl⟩

end Sys2Proof.Machine
end

section
/-! SUPPORT. The address map and the accesses of the port (20_memory.md R81 to R88): which offsets reach something, what a
legal and an illegal access answer, and the byte order of a buffer word. -/

namespace Sys2Proof.Machine

/-! The address map. -/

theorem bufferAt_isSome_iff (a : Nat) :
    (bufferAt a).isSome = true ↔ ∃ b : Buf, b.base ≤ a ∧ a < b.base + b.size := by
  simp only [Option.isSome_iff_exists, bufferAt_eq_some_iff, Buf.holds_iff]

/-- Above the registers the mapped offsets are those of the five buffers. -/
theorem bufferAt_isSome_iff_mappedOffset {a : Nat} (ha : ¬ a < 0x50) :
    (bufferAt a).isSome = true ↔ mappedOffset a := by
  rw [bufferAt_isSome_iff, mappedOffset]
  constructor
  · rintro ⟨b, h1, h2⟩
    cases b <;> simp only [Buf.base, Buf.size] at h1 h2 <;> omega
  · rintro (h | ⟨h1, h2⟩ | ⟨h1, h2⟩ | ⟨h1, h2⟩ | ⟨h1, h2⟩ | ⟨h1, h2⟩)
    · exact absurd h ha
    · exact ⟨.s, h1, Nat.lt_succ_of_le h2⟩
    · exact ⟨.sigma, h1, Nat.lt_succ_of_le h2⟩
    · exact ⟨.blk, h1, Nat.lt_succ_of_le h2⟩
    · exact ⟨.raw, h1, Nat.lt_succ_of_le h2⟩
    · exact ⟨.data, h1, Nat.lt_succ_of_le h2⟩

/-- R81: an offset reaches a register or a buffer exactly when it is mapped. -/
theorem targetAt_isSome_iff (a : Nat) : (targetAt a).isSome = true ↔ mappedOffset a := by
  unfold targetAt
  by_cases ha : a < 0x50
  · have hk : a / 4 < registers.length := by simp only [registers, List.length_cons, List.length_nil]; omega
    simp [ha, hk, mappedOffset]
  · rw [← bufferAt_isSome_iff_mappedOffset ha, if_neg ha]
    cases (bufferAt a).isSome <;> simp

/-- Settles O38: the registers' words below 0x50, and the five buffers above. -/
theorem mappedOffsetsAreTheMap : Obligations.MappedOffsetsAreTheMap := fun off => targetAt_isSome_iff off.toNat

/-! Illegal accesses. -/

/-- R84: the reads the port refuses. -/
theorem readTarget_eq_none_iff (width : Width) (off : BitVec 16) :
    readTarget width off = none ↔ width ≠ .w32 ∨ off.toNat % 4 ≠ 0 ∨ ¬ mappedOffset off.toNat := by
  rw [← targetAt_isSome_iff, readTarget]
  by_cases hw : width = .w32 <;> by_cases ha : off.toNat % 4 = 0 <;> simp [hw, ha]

/-- R85: the writes the port refuses. -/
theorem writeTarget_eq_none_iff (width : Width) (lanes : BitVec 4) (off : BitVec 16) :
    writeTarget width lanes off = none ↔ lanes ≠ 0xF ∨ readTarget width off = none := by
  rw [writeTarget]
  by_cases hl : lanes = 0xF
  · rw [if_pos hl]
    exact ⟨.inr, fun h => h.resolve_left fun hne => hne hl⟩
  · rw [if_neg hl]
    exact ⟨fun _ => .inl hl, fun _ => rfl⟩

theorem State.busRead_of_none {s : State} {width : Width} {off : BitVec 16} (h : readTarget width off = none) :
    s.busRead width off = (.busError, s) := by
  simp [State.busRead, h]

theorem State.busWrite_of_none {s : State} {width : Width} {lanes : BitVec 4} {off : BitVec 16} (v : Word)
    (h : writeTarget width lanes off = none) : s.busWrite width lanes off v = (.busError, s) := by
  simp [State.busWrite, h]

/-- Settles O39: an access that reaches nothing is answered a bus error, and the listed accesses reach nothing. -/
theorem illegalAccessAnswersBusError : Obligations.IllegalAccessAnswersBusError := by
  refine ⟨rfl, fun s width off hreset => ⟨fun h => ?_, fun lanes v h => ?_⟩⟩
  · rw [hostEvent_access _ hreset, State.access, State.busRead_of_none ((readTarget_eq_none_iff width off).2 h)]
    rfl
  · have hnone : writeTarget width lanes off = none := by
      rw [writeTarget_eq_none_iff, readTarget_eq_none_iff]
      tauto
    rw [hostEvent_access _ hreset, State.access, State.busWrite_of_none v hnone]
    rfl

/-! Reads. -/

/-- Settles O41, by the outcomes of a read: a bus error, a free word while busy, or the current value. -/
theorem readsHaveNoSideEffect : Obligations.ReadsHaveNoSideEffect := by
  intro s t width off h
  obtain ⟨_, -, -, he⟩ | ⟨a, ha, -, he⟩ | ⟨b, hb, -⟩ := hostEvent_cases (.access (.read width off)) s
  · rw [he] at h
    cases h
  · cases ha
    rw [he, State.access] at h
    obtain ⟨-, hr⟩ | ⟨_, -, -, -, hr⟩ | ⟨_, -, -, hr⟩ := s.busRead_cases width off <;> rw [hr] at h <;> cases h
    · exact ⟨.busError, s.draws, rfl⟩
    · exact ⟨.data (Config.freeWord s.draws), s.draws + 1, rfl⟩
    · exact ⟨.data (s.readAt _), s.draws, rfl⟩
  · cases hb

/-- What a read answers whose value is exact: idle, or of a target that R88 lists. -/
theorem hostEvent_read_exact {s : State} {width : Width} {off : BitVec 16} {t : Target}
    (ht : readTarget width off = some t) (hexact : s.status.busy = false ∨ t.exactWhileBusy = true)
    (hreset : s.resetLine = false) :
    hostEvent (.access (.read width off)) s = .next { s with answers := .data (s.readAt t) :: s.answers } := by
  have hread : s.busRead width off = (.data (s.readAt t), s) := by
    obtain h | h := hexact <;> simp [State.busRead, ht, h]
  rw [hostEvent_access _ hreset, State.access, hread]
  rfl

/-- R36, R37: a one-bit register as the host reads it. -/
theorem setWidth_ofBool_eq_ite (b : Bool) : (BitVec.ofBool b).setWidth 32 = if b then (1 : Word) else 0 := by
  cases b <;> rfl

/-- Settles O42: the first five registers are those R88 lists. -/
theorem busyReadsOfControlRegistersAreExact : Obligations.BusyReadsOfControlRegistersAreExact := by
  intro s _ hreset
  have hread (r : Reg) (hr : r.exactWhileBusy = true) :=
    hostEvent_read_exact (s := s) (readTarget_offset r) (.inr hr) hreset
  rw [← setWidth_ofBool_eq_ite, ← setWidth_ofBool_eq_ite]
  exact ⟨hread .id rfl, hread .cmd rfl, hread .status rfl, hread .irqEn rfl, hread .irqPend rfl⟩

/-! Buffer words. -/

/-- R86: byte `k` of the word read at an offset is the byte at offset + `k`. -/
theorem State.extractLsb'_wordAt (s : State) (a : Nat) :
    ∀ k, k < 4 → (s.wordAt a).extractLsb' (8 * k) 8 = s.byteAt (a + k)
  | 0, _ => BitVec.extractLsb'_append_eq_right
  | 1, _ => (BitVec.extractLsb'_append_eq_of_le (by decide)).trans BitVec.extractLsb'_append_eq_right
  | 2, _ => (BitVec.extractLsb'_append_eq_of_le (by decide)).trans <|
      (BitVec.extractLsb'_append_eq_of_le (by decide)).trans BitVec.extractLsb'_append_eq_right
  | 3, _ => (BitVec.extractLsb'_append_eq_of_le (by decide)).trans <|
      (BitVec.extractLsb'_append_eq_of_le (by decide)).trans BitVec.extractLsb'_append_eq_left

/-- R86: byte `k` of the written list is byte `k` of the word. -/
theorem getD_wordBytes (v : Word) : ∀ k, k < 4 → (wordBytes v).getD k 0 = v.extractLsb' (8 * k) 8
  | 0, _ | 1, _ | 2, _ | 3, _ => rfl

/-- A word is its four bytes. -/
theorem word_eq_of_bytes {v w : Word} (h : ∀ k, k < 4 → v.extractLsb' (8 * k) 8 = w.extractLsb' (8 * k) 8) :
    v = w := by
  refine BitVec.eq_of_getLsbD_eq fun i hi => ?_
  have hbit := congrArg (·.getLsbD (i % 8)) (h (i / 8) (by omega))
  simpa [BitVec.getLsbD_extractLsb', Nat.mod_lt, Nat.div_add_mod] using hbit

/-- R86: a word's own bytes at an offset are that word. -/
theorem State.wordAt_eq_of_bytes {s : State} {a : Nat} {v : Word}
    (h : ∀ k, k < 4 → s.byteAt (a + k) = v.extractLsb' (8 * k) 8) : s.wordAt a = v :=
  word_eq_of_bytes fun k hk => (s.extractLsb'_wordAt a k hk).trans (h k hk)

/-- R81, R84: a legal access to an aligned buffer offset reaches the bytes there. -/
theorem readTarget_of_buffer {off : BitVec 16} (halign : off.toNat % 4 = 0) (hlow : 0x100 ≤ off.toNat)
    (hmapped : mappedOffset off.toNat) : readTarget .w32 off = some (.bytes off.toNat) := by
  have hreg : ¬ off.toNat < 0x50 := by omega
  rw [readTarget, if_pos ⟨rfl, halign⟩, targetAt, if_neg hreg,
    if_pos ((bufferAt_isSome_iff_mappedOffset hreg).2 hmapped)]

/-- The state an accepted write of `v` to the buffer word at `a` leaves, with its answer. -/
def State.afterWordWrite (s : State) (a : Nat) (v : Word) : State :=
  State.answer (.written, s.writeAt (.bytes a) v)

/-- R85: what an idle write of a word to an aligned buffer offset does. -/
theorem hostEvent_write_buffer {s : State} {off : BitVec 16} (v : Word)
    (ht : readTarget .w32 off = some (.bytes off.toNat)) (hb : s.status.busy = false) (hr : s.resetLine = false) :
    hostEvent (.access (.write .w32 0xF off v)) s = .next (s.afterWordWrite off.toNat v) := by
  have hw : writeTarget .w32 0xF off = some (.bytes off.toNat) := ht
  rw [hostEvent_access _ hr, State.access, State.busWrite_of_idle v hw hb, State.afterWordWrite]

theorem State.byteAt_afterWordWrite (s : State) (a : Nat) (v : Word) (x : Nat) :
    (s.afterWordWrite a v).byteAt x =
      if a ≤ x ∧ x < a + 4 then (wordBytes v).getD (x - a) 0 else s.byteAt x :=
  s.byteAt_writeRange a (wordBytes v) x

/-- R86: the written bytes are those of the word, lowest address first. -/
theorem State.byteAt_afterWordWrite_add (s : State) (a : Nat) (v : Word) (k : Nat) (hk : k < 4) :
    (s.afterWordWrite a v).byteAt (a + k) = v.extractLsb' (8 * k) 8 := by
  rw [State.byteAt_afterWordWrite, if_pos (by omega), Nat.add_sub_cancel_left, getD_wordBytes v k hk]

/-- Settles O40: a word written is there byte by byte, so it reads back, and the range write leaves every other byte. -/
theorem bufferWordsAreLittleEndian : Obligations.BufferWordsAreLittleEndian := by
  intro s off hbusy hreset halign hlow hmapped
  have htarget := readTarget_of_buffer halign hlow hmapped
  refine ⟨⟨s.wordAt off.toNat, hostEvent_read_exact htarget (.inl hbusy) hreset, s.extractLsb'_wordAt _⟩,
    fun v => ⟨_, s.afterWordWrite off.toNat v, rfl, hostEvent_write_buffer v htarget hbusy hreset,
      s.byteAt_afterWordWrite_add _ v, fun a ha => ?_, ?_⟩⟩
  · rw [State.byteAt_afterWordWrite, if_neg (by omega)]
  · have hword : (s.afterWordWrite off.toNat v).wordAt off.toNat = v :=
      State.wordAt_eq_of_bytes (s.byteAt_afterWordWrite_add _ v)
    have hread := hostEvent_read_exact (s := s.afterWordWrite off.toNat v) htarget (.inl hbusy) hreset
    rwa [State.readAt, hword] at hread

/-! Whose turn a step is (R93, R332). -/

theorem hostTurn_of_nil {s : State} (h : s.inputs = []) : hostTurn s = .next s := by
  simp [hostTurn, h]

theorem hostTurn_of_cons {s : State} {x : Input} {xs : List Input} (h : s.inputs = x :: xs) :
    hostTurn s = hostEvent x.event { s with inputs := xs } := by
  simp [hostTurn, h]

/-- log 5: a command in flight waits for an input that comes before its completion. -/
theorem State.engineTurn_of_input_first {s : State} {x : Input} {xs : List Input} (h : s.inputs = x :: xs)
    (hx : x.afterCompletion = false) : s.engineTurn = false := by
  simp [State.engineTurn, h, hx]

/-- Settles O7: in each case it is the host's turn. -/
theorem stepTakesNextInput : Obligations.StepTakesNextInput := by
  refine fun s => ⟨fun hidle hnil => ?_, fun x xs hxs hturn => ?_⟩
  · rw [step_of_hostTurn (State.engineTurn_of_idle hidle), hostTurn_of_nil hnil]
  · have hhost : s.engineTurn = false :=
      hturn.elim State.engineTurn_of_idle (State.engineTurn_of_input_first hxs)
    rw [step_of_hostTurn hhost, hostTurn_of_cons hxs]

end Sys2Proof.Machine
end

section
/-! SUPPORT. The command word (30_encoding.md R110 to R113): its fields and the word laid out from them are inverse, the
opcode map lists every command's own word, and the words of no command fail one of R113's checks. -/

namespace Sys2Proof

/-! The fields of a word (R110). -/

@[simp] theorem CmdFields.ofWord_toWord (c : CmdFields) : CmdFields.ofWord c.toWord = c := by
  have hop : c.toWord.extractLsb' 0 4 = c.op := BitVec.extractLsb'_append_eq_right
  have hf : c.toWord.getLsbD 4 = c.f := by
    rw [CmdFields.toWord, BitVec.getLsbD_append, BitVec.getLsbD_append]
    simp
  have hrsv : c.toWord.extractLsb' 5 27 = c.rsv :=
    (BitVec.extractLsb'_append_eq_of_le (by decide)).trans BitVec.extractLsb'_append_eq_left
  rw [CmdFields.ofWord, hop, hf, hrsv]

@[simp] theorem CmdFields.toWord_ofWord (w : Word) : (CmdFields.ofWord w).toWord = w := by
  refine BitVec.eq_of_getLsbD_eq fun k hk => ?_
  simp only [CmdFields.toWord, CmdFields.ofWord, BitVec.getLsbD_append, BitVec.getLsbD_extractLsb',
    BitVec.getLsbD_ofBool]
  by_cases hop : k < 4
  · simp [hop]
  · by_cases hf : k = 4
    · simp [hf]
    · have hk4 : ¬ k - 4 < 1 := by omega
      have hk27 : k - 4 - 1 < 27 := by omega
      have hrsv : 5 + (k - 4 - 1) = k := by omega
      simp [hop, hk4, hk27, hrsv]

theorem ofWord_encode (i : Instr) : CmdFields.ofWord (encode i) = i.fields :=
  CmdFields.ofWord_toWord _

/-! The opcode map (R111). -/

theorem decode_eq_ok_iff (w : Word) (i : Instr) : decode w = .ok i ↔ opcodeMap.lookup w = some i := by
  unfold decode
  cases opcodeMap.lookup w <;> simp

/-- Every entry of the map pairs a command with the word of its fields. -/
theorem fst_eq_encode_of_mem_opcodeMap : ∀ p ∈ opcodeMap, p.1 = encode p.2 := by decide

/-- Settles O2, on the ten words. -/
theorem encodeThenDecode : Obligations.EncodeThenDecode := by
  intro i
  cases i <;> rfl

/-- What decodes to a command is the word of an entry of the map. -/
theorem eq_encode_of_decode {w : Word} {i : Instr} (h : decode w = .ok i) : w = encode i := by
  obtain ⟨_, _, hmap, -⟩ := List.lookup_eq_some_iff.1 ((decode_eq_ok_iff w i).1 h)
  exact fst_eq_encode_of_mem_opcodeMap (w, i) (by simp [hmap])

/-- Settles O3: the map lists no word but the commands' own, and each of those decodes back. -/
theorem wordSelectsOnlyItsOwnCommand : Obligations.WordSelectsOnlyItsOwnCommand := by
  refine fun w i => ⟨eq_encode_of_decode, ?_⟩
  rintro rfl
  exact encodeThenDecode i

/-- Settles O1: each of the six words is its command's own. -/
theorem writtenOutWordsDecode : Obligations.WrittenOutWordsDecode :=
  ⟨encodeThenDecode .gf16Mul, encodeThenDecode .synd256, encodeThenDecode .bm256, encodeThenDecode .fmtDec,
    encodeThenDecode .rsDec, encodeThenDecode .deint⟩

theorem exists_decode_error {w : Word} (h : ∀ i, w ≠ encode i) : ∃ e, decode w = .error e := by
  cases hd : decode w with
  | ok i => exact absurd (eq_encode_of_decode hd) (h i)
  | error e => exact ⟨e, rfl⟩

/-! The illegal words (R113). -/

theorem CmdFields.wellFormed_iff (c : CmdFields) :
    c.wellFormed = true ↔ c.rsv = 0 ∧ c.op.toNat < 8 ∧ (c.f = true → c.op = 3 ∨ c.op = 4) := by
  simp [CmdFields.wellFormed, CmdFields.rsvZero, CmdFields.opDefined, CmdFields.fieldAllowed, and_assoc, or_assoc,
    imp_iff_not_or]

/-- The checks that can fail, as R113 lists them. -/
theorem CmdFields.wellFormed_eq_false_iff (c : CmdFields) :
    c.wellFormed = false ↔ c.rsv ≠ 0 ∨ 8 ≤ c.op.toNat ∨ (c.f = true ∧ c.op ≠ 3 ∧ c.op ≠ 4) := by
  rw [← Bool.not_eq_true, CmdFields.wellFormed_iff]
  simp only [not_and_or, not_lt, Classical.not_imp, not_or, ne_eq]

theorem Instr.wellFormed_fields (i : Instr) : i.fields.wellFormed = true := by
  cases i <;> rfl

/-- Among the 32 words with RSV = 0, those that pass R113's other checks stand in the map. -/
theorem exists_mem_opcodeMap_of_wellFormed :
    ∀ (op : BitVec 4) (f : Bool), (CmdFields.mk op f 0).wellFormed = true →
      ∃ p ∈ opcodeMap, p.2.fields = CmdFields.mk op f 0 := by decide

theorem CmdFields.wellFormed_iff_exists_fields (c : CmdFields) : c.wellFormed = true ↔ ∃ i : Instr, i.fields = c := by
  constructor
  · obtain ⟨op, f, rsv⟩ := c
    intro h
    obtain ⟨rfl, -⟩ := (CmdFields.wellFormed_iff _).1 h
    obtain ⟨p, -, hp⟩ := exists_mem_opcodeMap_of_wellFormed op f h
    exact ⟨p.2, hp⟩
  · rintro ⟨i, rfl⟩
    exact i.wellFormed_fields

/-- A command's word is one whose fields are the command's. -/
theorem eq_encode_iff_fields_eq (w : Word) (i : Instr) : w = encode i ↔ i.fields = CmdFields.ofWord w := by
  constructor
  · rintro rfl
    exact (ofWord_encode i).symm
  · intro h
    rw [encode, h, CmdFields.toWord_ofWord]

theorem forall_ne_encode_iff (w : Word) :
    (∀ i, w ≠ encode i) ↔ (CmdFields.ofWord w).wellFormed = false := by
  rw [← Bool.not_eq_true, CmdFields.wellFormed_iff_exists_fields, not_exists]
  exact forall_congr' fun i => not_congr (eq_encode_iff_fields_eq w i)

end Sys2Proof

namespace Sys2Proof.Machine

/-- R144: the completion of a word of no command. -/
theorem execute_of_ne_encode {w : Word} (h : ∀ i, w ≠ encode i) (s : State) :
    execute w s = .next (s.complete .illegalCmd) := by
  obtain ⟨e, he⟩ := exists_decode_error h
  rw [execute, he]
  rfl

/-- R143, R113: the report of a completion with ILLEGAL_CMD. -/
theorem State.complete_illegalCmd (s : State) :
    s.complete .illegalCmd =
      { s with status := completedStatus s.status 8 s.status.nz, irqPend := true } := rfl

/-- Settles O4, by R113's checks on the fields and the completion of an undecodable word. -/
theorem illegalWordCompletesWithIllegalCmd : Obligations.IllegalWordCompletesWithIllegalCmd := by
  refine ⟨fun w => ?_, fun s hturn hillegal => ?_⟩
  · rw [forall_ne_encode_iff, CmdFields.wellFormed_eq_false_iff]
    rfl
  · rw [step_of_engineTurn hturn, execute_of_ne_encode hillegal, State.complete_illegalCmd]

end Sys2Proof.Machine
end

section
/-! SUPPORT. The life of a command (40_command_lifecycle.md R141 to R146): how a word in CMD comes to run, and what
every completion reports. -/

namespace Sys2Proof.Machine

/-! Which command runs (R143, R144). -/

theorem execute_of_decode {w : Word} {i : Instr} (h : decode w = .ok i) (s : State) : execute w s = exec i s := by
  rw [execute, h]

/-- Settles O5: a command's word decodes to it, and a word of no command completes with ILLEGAL_CMD. -/
theorem executeRunsNamedCommand : Obligations.ExecuteRunsNamedCommand := by
  refine fun w s => ⟨?_, fun hillegal => ?_⟩
  · rintro i rfl
    exact execute_of_decode (encodeThenDecode i) s
  · rw [execute_of_ne_encode hillegal, State.complete_illegalCmd]

/-- log 5: a command in flight completes next when no input comes before its completion. -/
theorem State.engineTurn_of_input_waits {s : State} (hbusy : s.status.busy = true)
    (hwaits : s.inputs = [] ∨ ∃ x xs, s.inputs = x :: xs ∧ x.afterCompletion = true) : s.engineTurn = true := by
  obtain hnil | ⟨x, xs, hcons, hx⟩ := hwaits
  · simp [State.engineTurn, hbusy, hnil]
  · simp [State.engineTurn, hbusy, hcons, hx]

/-- Settles O6: it is the engine's turn, and it executes CMD. -/
theorem stepRunsDecodedCommand : Obligations.StepRunsDecodedCommand := by
  intro s i hbusy hwaits hdecode
  rw [step_of_engineTurn (State.engineTurn_of_input_waits hbusy hwaits), execute_of_decode hdecode]

/-- A word of all 32 bits denotes itself. -/
theorem tableWord_toNat (w : Word) : tableWord 32 w.toNat = w := by
  rw [tableWord, Nat.mod_eq_of_lt w.isLt, BitVec.ofNat_toNat, BitVec.setWidth_eq]

/-- A placed command's completion comes before every input. -/
theorem inputsAfterCompletion_waits (is : List Input) :
    inputsAfterCompletion is = [] ∨ ∃ x xs, inputsAfterCompletion is = x :: xs ∧ x.afterCompletion = true := by
  cases is with
  | nil => exact .inl rfl
  | cons x xs => exact .inr ⟨{ x with afterCompletion := true }, xs, rfl, rfl⟩

/-- Settles O8: the placed word is in CMD with BUSY set, and no input comes before its completion. -/
theorem placedCommandRunsNext : Obligations.PlacedCommandRunsNext := by
  intro s i
  rw [State.withFetchWord, tableWord_toNat]
  exact stepRunsDecodedCommand _ i rfl (inputsAfterCompletion_waits s.inputs) (encodeThenDecode i)

/-- Settles O9: an idle write to CMD is the launch. -/
theorem launchWritesExactly : Obligations.LaunchWritesExactly :=
  fun _ w hbusy hreset => hostEvent_write_idle .cmd w hbusy hreset

/-! The completion (R143). -/

/-- Settles O13: the word 0 is NOP's own, and NOP has no effect before its report. -/
theorem nopOnlyCompletes : Obligations.NopOnlyCompletes := ⟨encodeThenDecode .nop, exec_nop⟩

/-- The code a command returns and the state it leaves before its report: `Execute` of R143. -/
def commandEffect : Instr → State → ErrCode × State
  | .nop, s => (.success, s)
  | .gf16Mul, s => gf16MulEffect s
  | .gf256Mul, s => gf256MulEffect s
  | .synd16, s => synd16Effect s
  | .synd256, s => synd256Effect s
  | .bm16, s => bm16Effect s
  | .bm256, s => bm256Effect s
  | .fmtDec, s => fmtDecEffect s
  | .rsDec, s => rsDecEffect s
  | .deint, s => deintEffect s

/-- R143: a command's completion is the report over its effect. -/
theorem exec_eq_commandEffect (i : Instr) (s : State) :
    exec i s = .next ((commandEffect i s).2.complete (commandEffect i s).1) := by
  cases i <;> rfl

/-- R113, R144: ILLEGAL_CMD is no command's own code. -/
theorem commandEffect_code_ne_illegalCmd (i : Instr) (s : State) : (commandEffect i s).1 ≠ .illegalCmd := by
  cases i with
  | nop | gf256Mul | synd16 => exact ErrCode.noConfusion
  | gf16Mul => obtain ⟨-, h⟩ | ⟨-, -, h⟩ := gf16MulEffect_cases s <;> simp [commandEffect, h]
  | synd256 => obtain ⟨-, h⟩ | ⟨-, h⟩ := synd256Effect_cases s <;> simp [commandEffect, h]
  | bm16 => obtain ⟨-, h⟩ | ⟨-, -, h⟩ := bm16Effect_cases s <;> simp [commandEffect, h]
  | bm256 => obtain ⟨-, h⟩ | ⟨-, h⟩ := bm256Effect_cases s <;> simp [commandEffect, h]
  | fmtDec =>
    obtain ⟨-, h⟩ | ⟨-, -, h⟩ | ⟨-, -, h⟩ := decodeFormat_cases s.fmtA s.fmtB <;>
      simp [commandEffect, fmtDecEffect, h]
  | rsDec =>
    obtain ⟨-, h⟩ | ⟨-, h⟩ := rsDecEffect_cases s <;> rw [commandEffect, h]
    · exact ErrCode.noConfusion
    · split <;> exact ErrCode.noConfusion
  | deint =>
    obtain ⟨-, h⟩ | ⟨-, u, -, h⟩ := deintEffect_cases s <;> rw [commandEffect, h]
    · exact ErrCode.noConfusion
    · obtain ⟨_, -, hr⟩ | ⟨_, -, hr⟩ := u.storeStream_cases
        (deintStream (s.buf .raw) s.totalWords s.bs s.dw s.ns) (blockCount s.totalWords s.bs s.ns) <;> simp [hr]

/-- R300: the codes other than ILLEGAL_CMD. -/
theorem ErrCode.code_of_ne_illegalCmd {c : ErrCode} (h : c ≠ .illegalCmd) :
    c.code = 0 ∨ c.code = 3 ∨ c.code = 4 ∨ c.code = 9 := by
  cases c with
  | illegalCmd => exact absurd rfl h
  | _ => decide

/-- R143: what the report leaves in STATUS. -/
theorem Status.complete_eq (t : Status) (c : ErrCode) : t.complete c = completedStatus t c.code t.nz := by
  cases c <;> rfl

/-- STATUS after a completion depends on WERR alone of what was there. -/
theorem completedStatus_congr {t t' : Status} (h : t.werr = t'.werr) (code : BitVec 4) (nz : Bool) :
    completedStatus t code nz = completedStatus t' code nz := by
  rw [completedStatus, completedStatus, h]

/-- No effect touches CMD or WERR. -/
theorem commandEffect_cmd_werr (i : Instr) (s : State) :
    (commandEffect i s).2.cmd = s.cmd ∧ (commandEffect i s).2.status.werr = s.status.werr := by
  obtain ⟨t, c, h, hcmd, -, hwerr, -⟩ := exec_completes i s
  have heq : (commandEffect i s).2.complete (commandEffect i s).1 = t.complete c :=
    Host.Outcome.next.inj ((exec_eq_commandEffect i s).symm.trans h)
  exact ⟨(congrArg State.cmd heq).trans hcmd, (congrArg (·.status.werr) heq).trans hwerr⟩

/-- Settles O11: every effect leaves CMD and WERR, the report does the rest, and no command returns ILLEGAL_CMD. -/
theorem everyCommandReportsCompletion : Obligations.EveryCommandReportsCompletion := by
  intro i s
  obtain ⟨hcmd, hwerr⟩ := commandEffect_cmd_werr i s
  refine ⟨_, (commandEffect i s).1.code, exec_eq_commandEffect i s, ?_, rfl, hcmd,
    ErrCode.code_of_ne_illegalCmd (commandEffect_code_ne_illegalCmd i s)⟩
  rw [State.complete_status, Status.complete_eq]
  exact completedStatus_congr hwerr _ _

end Sys2Proof.Machine
end

section
/-! SUPPORT. Host writes while a command is in flight (40_command_lifecycle.md R142): which are dropped, what a dropped
write leaves, and that no command takes notice of it. -/

namespace Sys2Proof.Machine

/-! The two outcomes of a legal write. -/

/-- What a dropped write leaves: WERR set, and its answer. -/
def State.recordDroppedWrite (s : State) : State :=
  { s with status := s.status.dropWrite, answers := .written :: s.answers }

theorem hostEvent_write_dropped {s : State} {off : BitVec 16} {t : Target} (v : Word)
    (ht : writeTarget .w32 0xF off = some t) (hdrop : t.writableWhileBusy = false) (hbusy : s.status.busy = true)
    (hreset : s.resetLine = false) :
    hostEvent (.access (.write .w32 0xF off v)) s = .next s.recordDroppedWrite := by
  have hwrite : s.busWrite .w32 0xF off v = (.written, { s with status := s.status.dropWrite }) := by
    rw [State.busWrite, ht]
    exact if_pos ⟨hbusy, hdrop⟩
  rw [hostEvent_access _ hreset, State.access, hwrite]
  rfl

/-- A write of a register that R142 lists acts whether a command is in flight or not. -/
theorem hostEvent_write_writableWhileBusy {r : Reg} (hr : r.writableWhileBusy = true) (v : Word) {s : State}
    (hreset : s.resetLine = false) :
    hostEvent (.access (.write .w32 0xF (BitVec.ofNat 16 r.offset) v)) s =
      .next (State.answer (.written, s.writeReg r v)) := by
  have hwrite : s.busWrite .w32 0xF (BitVec.ofNat 16 r.offset) v = (.written, s.writeReg r v) := by
    rw [State.busWrite, writeTarget_offset]
    exact if_neg fun hdrop => Bool.false_ne_true (hdrop.2.symm.trans hr)
  rw [hostEvent_access _ hreset, State.access, hwrite]

/-- R142: a mapped aligned offset but the three listed reaches what cannot be written while busy. -/
theorem exists_writeTarget_not_writable {off : BitVec 16} (halign : off.toNat % 4 = 0)
    (hmapped : mappedOffset off.toNat) (h8 : off ≠ 0x008) (hC : off ≠ 0x00C) (h10 : off ≠ 0x010) :
    ∃ t, writeTarget .w32 0xF off = some t ∧ t.writableWhileBusy = false := by
  obtain ⟨t, ht⟩ := Option.isSome_iff_exists.1 ((targetAt_isSome_iff off.toNat).2 hmapped)
  refine ⟨t, (if_pos ⟨rfl, halign⟩ : readTarget .w32 off = _).trans ht, ?_⟩
  cases t with
  | bytes a => rfl
  | reg r =>
    have hoff : off.toNat = r.offset := targetAt_eq_reg halign ht
    cases r with
    | status => exact absurd (BitVec.eq_of_toNat_eq hoff) h8
    | irqEn => exact absurd (BitVec.eq_of_toNat_eq hoff) hC
    | irqPend => exact absurd (BitVec.eq_of_toNat_eq hoff) h10
    | _ => rfl

theorem hostEvent_write_busy {s : State} {off : BitVec 16} (v : Word) (hbusy : s.status.busy = true)
    (hreset : s.resetLine = false) (halign : off.toNat % 4 = 0) (hmapped : mappedOffset off.toNat)
    (h8 : off ≠ 0x008) (hC : off ≠ 0x00C) (h10 : off ≠ 0x010) :
    hostEvent (.access (.write .w32 0xF off v)) s = .next s.recordDroppedWrite := by
  obtain ⟨t, ht, hdrop⟩ := exists_writeTarget_not_writable halign hmapped h8 hC h10
  exact hostEvent_write_dropped v ht hdrop hbusy hreset

/-- Settles O10: the three registers R142 lists act on a write, and everything else that is mapped drops it. -/
theorem writesWhileBusyAreDropped : Obligations.WritesWhileBusyAreDropped := by
  intro s off v hbusy hreset
  have hacts {r : Reg} (hr : r.writableWhileBusy = true) := hostEvent_write_writableWhileBusy hr v hreset
  refine ⟨hostEvent_write_busy v hbusy hreset, ?_, ?_, ?_⟩ <;> rintro rfl
  · exact hacts (r := .status) rfl
  · exact hacts (r := .irqEn) rfl
  · exact hacts (r := .irqPend) rfl

/-! A command does not see a dropped write. -/

/-- The record of a dropped write, on what a command returns. -/
def recordDroppedWriteIn (r : ErrCode × State) : ErrCode × State := (r.1, r.2.recordDroppedWrite)

theorem State.storeStream_recordDroppedWrite (s : State) (r : Except Nat (List Byte)) (bc : Nat) :
    s.recordDroppedWrite.storeStream r bc = recordDroppedWriteIn (s.storeStream r bc) := by
  cases r <;> rfl

theorem deintEffect_recordDroppedWrite (s : State) :
    deintEffect s.recordDroppedWrite = recordDroppedWriteIn (deintEffect s) := by
  rw [deintEffect, deintEffect, apply_ite recordDroppedWriteIn]
  refine if_congr Iff.rfl rfl ?_
  exact congrArg (fun r => (r.1, r.2.unspecifyIntermediates)) <|
    State.storeStream_recordDroppedWrite
      { s with deintInfo := { lb := BitVec.ofNat 14 (longBlocks s.totalWords s.bs s.ns)
                              bc := BitVec.ofNat 14 (blockCount s.totalWords s.bs s.ns) } }
      (deintStream (s.buf .raw) s.totalWords s.bs s.dw s.ns) (blockCount s.totalWords s.bs s.ns)

/-- R142: every command returns the same code and results after a dropped write, since no check and no result of it
reads WERR or the answers. -/
theorem commandEffect_recordDroppedWrite (i : Instr) (s : State) :
    commandEffect i s.recordDroppedWrite = recordDroppedWriteIn (commandEffect i s) := by
  cases i with
  | nop | gf256Mul | synd16 | fmtDec => rfl
  | gf16Mul | synd256 | bm16 | bm256 | rsDec =>
    simp only [commandEffect, gf16MulEffect, synd256Effect, bm16Effect, bm256Effect, rsDecEffect,
      apply_ite recordDroppedWriteIn]
    rfl
  | deint => exact deintEffect_recordDroppedWrite s

/-- Settles O56: the command's effect is the same but for the dropped write's record, and so is its report. -/
theorem droppedWriteDoesNotTouchTheCommand : Obligations.DroppedWriteDoesNotTouchTheCommand := by
  intro i s t u off v hbusy hreset halign hmapped h8 hC h10 hwrite hexec
  rw [hostEvent_write_busy v hbusy hreset halign hmapped h8 hC h10] at hwrite
  cases hwrite
  rw [exec_eq_commandEffect] at hexec
  cases hexec
  rw [exec_eq_commandEffect, commandEffect_recordDroppedWrite]
  rfl

end Sys2Proof.Machine
end

section
/-! SUPPORT. The polynomial product of 41_gf_arith.md R164: it distributes over XOR on both sides, and a factor of
`alpha` moves out of it, for both moduli. -/

namespace Sys2Proof.Machine

/-! Sums of polynomials over GF(2). -/

theorem if_xor_if {n : Nat} (c : Bool) (x y u v : BitVec n) :
    (if c then x ^^^ u else x) ^^^ (if c then y ^^^ v else y) =
      if c then (x ^^^ y) ^^^ (u ^^^ v) else x ^^^ y := by
  cases c
  · rfl
  · simp only [if_true]
    ac_rfl

theorem if_xor_if_same {n : Nat} (c d : Bool) (x y v : BitVec n) :
    (if c then x ^^^ v else x) ^^^ (if d then y ^^^ v else y) =
      if c ^^ d then (x ^^^ y) ^^^ v else x ^^^ y := by
  cases d with
  | false => simpa using if_xor_if c x y v 0
  | true =>
    cases c with
    | false => exact (BitVec.xor_assoc x y v).symm
    | true =>
      calc x ^^^ v ^^^ (y ^^^ v) = x ^^^ y ^^^ (v ^^^ v) := by ac_rfl
        _ = x ^^^ y := by rw [BitVec.xor_self, BitVec.xor_zero]

/-- A fold that begins at 0 and whose step is the sum of two others' is the sum of the two folds. -/
theorem foldl_zero_xor {ι : Type} {n : Nat} {op₁ op₂ op₃ : BitVec n → ι → BitVec n} (l : List ι)
    (h : ∀ x y i, op₁ x i ^^^ op₂ y i = op₃ (x ^^^ y) i) :
    l.foldl op₃ 0 = l.foldl op₁ 0 ^^^ l.foldl op₂ 0 :=
  calc l.foldl op₃ 0 = l.foldl op₃ (0 ^^^ 0) := congrArg (l.foldl op₃) BitVec.xor_self.symm
    _ = l.foldl op₁ 0 ^^^ l.foldl op₂ 0 := List.foldl_hom₂ l (· ^^^ ·) op₁ op₂ op₃ 0 0 h

theorem carrylessProduct_xor_left (a a' b : Byte) :
    carrylessProduct (a ^^^ a') b = carrylessProduct a b ^^^ carrylessProduct a' b := by
  refine foldl_zero_xor _ fun x y i => ?_
  rw [BitVec.setWidth_xor, BitVec.shiftLeft_xor_distrib]
  exact if_xor_if _ _ _ _ _

theorem carrylessProduct_xor_right (a b b' : Byte) :
    carrylessProduct a (b ^^^ b') = carrylessProduct a b ^^^ carrylessProduct a b' := by
  refine foldl_zero_xor _ fun x y i => ?_
  rw [BitVec.getLsbD_xor]
  exact if_xor_if_same _ _ _ _ _

theorem polyRemainder_xor (modulus : BitVec 16) (deg : Nat) (p q : BitVec 16) :
    polyRemainder modulus deg (p ^^^ q) = polyRemainder modulus deg p ^^^ polyRemainder modulus deg q := by
  refine List.foldl_hom₂ (List.range (16 - deg)) (· ^^^ ·) _ _ _ p q fun x y i => ?_
  rw [BitVec.getLsbD_xor]
  exact if_xor_if_same _ _ _ _ _

/-- The product of two polynomials reduced by `modulus`, whose degree is `deg`. -/
def reducedProduct (modulus : BitVec 16) (deg : Nat) (a b : Byte) : Byte :=
  (polyRemainder modulus deg (carrylessProduct a b)).setWidth 8

theorem polyProduct16_eq : polyProduct16 = reducedProduct 0x13 4 := rfl

theorem polyProduct256_eq : polyProduct256 = reducedProduct 0x11D 8 := rfl

theorem reducedProduct_xor_left (modulus : BitVec 16) (deg : Nat) (a a' b : Byte) :
    reducedProduct modulus deg (a ^^^ a') b = reducedProduct modulus deg a b ^^^ reducedProduct modulus deg a' b := by
  rw [reducedProduct, carrylessProduct_xor_left, polyRemainder_xor, BitVec.setWidth_xor, reducedProduct,
    reducedProduct]

theorem reducedProduct_xor_right (modulus : BitVec 16) (deg : Nat) (a b b' : Byte) :
    reducedProduct modulus deg a (b ^^^ b') = reducedProduct modulus deg a b ^^^ reducedProduct modulus deg a b' := by
  rw [reducedProduct, carrylessProduct_xor_right, polyRemainder_xor, BitVec.setWidth_xor, reducedProduct,
    reducedProduct]

/-! What holds of the eight single bits and of sums holds of every byte. -/

theorem foldl_bits_eq : ∀ b : Byte,
    (List.range 8).foldl (fun acc i => if b.getLsbD i then acc ^^^ 1#8 <<< i else acc) 0 = b := by decide

theorem byte_induction {P : Byte → Prop} (bit : ∀ i < 8, P (1#8 <<< i)) (xor : ∀ x y, P x → P y → P (x ^^^ y))
    (b : Byte) : P b := by
  rw [← foldl_bits_eq b]
  refine List.foldlRecOn _ _ ?_ fun acc hacc i hi => ?_
  · exact xor 1 1 (bit 0 (by decide)) (bit 0 (by decide))
  · split
    · exact xor _ _ hacc (bit i (List.mem_range.1 hi))
    · exact hacc

/-- A factor of `alpha` moves out of a reduced product, if it does so on single bits. -/
theorem reducedProduct_mul_alpha {modulus : BitVec 16} {deg : Nat}
    (hbits : ∀ i < 8, ∀ j < 8,
      reducedProduct modulus deg (reducedProduct modulus deg (1#8 <<< i) 2) (1#8 <<< j) =
        reducedProduct modulus deg (reducedProduct modulus deg (1#8 <<< i) (1#8 <<< j)) 2) (a b : Byte) :
    reducedProduct modulus deg (reducedProduct modulus deg a 2) b =
      reducedProduct modulus deg (reducedProduct modulus deg a b) 2 := by
  induction a using byte_induction with
  | xor x y hx hy => simp only [reducedProduct_xor_left, hx, hy]
  | bit i hi =>
    induction b using byte_induction with
    | xor x y hx hy => simp only [reducedProduct_xor_left, reducedProduct_xor_right, hx, hy]
    | bit j hj => exact hbits i hi j hj

theorem polyProduct16_mul_alpha (a b : Byte) :
    polyProduct16 (polyProduct16 a 2) b = polyProduct16 (polyProduct16 a b) 2 := by
  rw [polyProduct16_eq]
  exact reducedProduct_mul_alpha (by decide +kernel) a b

theorem polyProduct256_mul_alpha (a b : Byte) :
    polyProduct256 (polyProduct256 a 2) b = polyProduct256 (polyProduct256 a b) 2 := by
  rw [polyProduct256_eq]
  exact reducedProduct_mul_alpha (by decide +kernel) a b

end Sys2Proof.Machine
end

section
/-! SUPPORT. The field laws of 41_gf_arith.md R164, once for both fields: from what the tables of a field satisfy to the
laws of the multiplication through them. -/

namespace Sys2Proof.Machine

/-- What the laws need of a field's tables: EXP lists nonzero elements from 1 on, and LOG inverts it. The elements are
the bytes up to the field's order. -/
structure Gf.LogInvertsExp (gf : Gf) : Prop where
  order_pos : 0 < gf.order
  exp_zero : gf.exp 0 = 1
  exp_ne_zero : ∀ k, k < gf.order → gf.exp k ≠ 0
  exp_le : ∀ k, k < gf.order → (gf.exp k).toNat ≤ gf.order
  log_one : gf.log 1 = gf.order
  log_exp : ∀ k, k < gf.order → 1 ≤ k → gf.log (gf.exp k) = k
  log_le : ∀ a : Byte, a.toNat ≤ gf.order → gf.log a ≤ gf.order
  exp_log : ∀ a : Byte, a.toNat ≤ gf.order → a ≠ 0 → gf.exp (gf.log a % gf.order) = a

/-- What ties a field's EXP table to a product computed without it: EXP lists the powers of `alpha = 2` under the
product, and the product distributes over sums and lets a factor of `alpha` out. -/
structure Gf.ExpListsPowers (gf : Gf) (product : Byte → Byte → Byte) : Prop where
  xor_le : ∀ a b : Byte, a.toNat ≤ gf.order → b.toNat ≤ gf.order → (a ^^^ b).toNat ≤ gf.order
  exp_succ : ∀ k, k < gf.order - 1 → gf.exp (k + 1) = product (gf.exp k) 2
  exp_last : product (gf.exp (gf.order - 1)) 2 = gf.exp 0
  one_product : ∀ a : Byte, a.toNat ≤ gf.order → product 1 a = a
  xor_product : ∀ a a' b : Byte, product (a ^^^ a') b = product a b ^^^ product a' b
  product_xor : ∀ a b b' : Byte, product a (b ^^^ b') = product a b ^^^ product a b'
  product_mul_alpha : ∀ a b : Byte, product (product a 2) b = product (product a b) 2

/-- `alpha^k` for every exponent, through EXP. -/
def Gf.pow (gf : Gf) (k : Nat) : Byte := gf.exp (k % gf.order)

/-! Multiplication on every byte. -/

theorem Gf.zero_mul (gf : Gf) (a : Byte) : gf.mul 0 a = 0 := if_pos (.inl rfl)

theorem Gf.mul_zero (gf : Gf) (a : Byte) : gf.mul a 0 = 0 := if_pos (.inr rfl)

theorem Gf.mul_of_ne_zero (gf : Gf) {a b : Byte} (ha : a ≠ 0) (hb : b ≠ 0) :
    gf.mul a b = gf.pow (gf.log a + gf.log b) := if_neg (not_or.2 ⟨ha, hb⟩)

theorem Gf.mul_comm (gf : Gf) (a b : Byte) : gf.mul a b = gf.mul b a := by
  unfold Gf.mul Gf.mulNonzero
  exact if_congr or_comm rfl (by rw [Nat.add_comm])

theorem Gf.ExpListsPowers.zero_product {gf : Gf} {product : Byte → Byte → Byte} (hp : gf.ExpListsPowers product)
    (a : Byte) : product 0 a = 0 :=
  (hp.xor_product 0 0 a).trans BitVec.xor_self

theorem Gf.ExpListsPowers.product_zero {gf : Gf} {product : Byte → Byte → Byte} (hp : gf.ExpListsPowers product)
    (a : Byte) : product a 0 = 0 :=
  (hp.product_xor a 0 0).trans BitVec.xor_self

/-! The laws that follow from LOG and EXP alone. -/

section
variable {gf : Gf} (h : gf.LogInvertsExp) {a b : Byte}
include h

theorem Gf.LogInvertsExp.pow_zero : gf.pow 0 = 1 := by rw [Gf.pow, Nat.zero_mod, h.exp_zero]

theorem Gf.LogInvertsExp.pow_order : gf.pow gf.order = 1 := by rw [Gf.pow, Nat.mod_self, h.exp_zero]

theorem Gf.LogInvertsExp.pow_ne_zero (k : Nat) : gf.pow k ≠ 0 := h.exp_ne_zero _ (Nat.mod_lt k h.order_pos)

theorem Gf.LogInvertsExp.pow_le (k : Nat) : (gf.pow k).toNat ≤ gf.order := h.exp_le _ (Nat.mod_lt k h.order_pos)

theorem Gf.LogInvertsExp.log_pow (k : Nat) : gf.log (gf.pow k) % gf.order = k % gf.order := by
  have hlt := Nat.mod_lt k h.order_pos
  rw [Gf.pow]
  obtain hk | hk := Nat.eq_zero_or_pos (k % gf.order)
  · rw [hk, h.exp_zero, h.log_one, Nat.mod_self]
  · rw [h.log_exp _ hlt hk, Nat.mod_mod]

/-- An element is 0 or a power of `alpha`. -/
theorem Gf.LogInvertsExp.eq_zero_or_pow (ha : a.toNat ≤ gf.order) : a = 0 ∨ ∃ i, a = gf.pow i := by
  by_cases h0 : a = 0
  · exact .inl h0
  · exact .inr ⟨gf.log a, (h.exp_log a ha h0).symm⟩

/-- Exponents add up under the product. -/
theorem Gf.LogInvertsExp.pow_mul_pow (i j : Nat) : gf.mul (gf.pow i) (gf.pow j) = gf.pow (i + j) := by
  rw [gf.mul_of_ne_zero (h.pow_ne_zero i) (h.pow_ne_zero j), Gf.pow, Nat.add_mod, h.log_pow, h.log_pow,
    ← Nat.add_mod, Gf.pow]

theorem Gf.LogInvertsExp.mul_le : (gf.mul a b).toNat ≤ gf.order := by
  unfold Gf.mul
  split
  · exact Nat.zero_le _
  · exact h.pow_le _

theorem Gf.LogInvertsExp.eq_zero_or_eq_zero_of_mul_eq_zero (hab : gf.mul a b = 0) : a = 0 ∨ b = 0 := by
  by_contra hne
  exact h.pow_ne_zero _ ((if_neg hne).symm.trans hab)

theorem Gf.LogInvertsExp.one_mul (ha : a.toNat ≤ gf.order) : gf.mul 1 a = a := by
  obtain rfl | ⟨i, rfl⟩ := h.eq_zero_or_pow ha
  · exact gf.mul_zero 1
  · rw [← h.pow_zero, h.pow_mul_pow, Nat.zero_add]

theorem Gf.LogInvertsExp.mul_assoc {c : Byte} (ha : a.toNat ≤ gf.order) (hb : b.toNat ≤ gf.order)
    (hc : c.toNat ≤ gf.order) : gf.mul (gf.mul a b) c = gf.mul a (gf.mul b c) := by
  obtain rfl | ⟨i, rfl⟩ := h.eq_zero_or_pow ha
  · rw [gf.zero_mul, gf.zero_mul, gf.zero_mul]
  obtain rfl | ⟨j, rfl⟩ := h.eq_zero_or_pow hb
  · rw [gf.mul_zero, gf.zero_mul, gf.mul_zero]
  obtain rfl | ⟨k, rfl⟩ := h.eq_zero_or_pow hc
  · rw [gf.mul_zero, gf.mul_zero, gf.mul_zero]
  simp only [h.pow_mul_pow, Nat.add_assoc]

theorem Gf.LogInvertsExp.mul_inverse (ha : a.toNat ≤ gf.order) (h0 : a ≠ 0) :
    gf.mul a (gf.pow (gf.order - gf.log a)) = 1 := by
  calc gf.mul a (gf.pow (gf.order - gf.log a))
      = gf.mul (gf.pow (gf.log a)) (gf.pow (gf.order - gf.log a)) := by rw [Gf.pow, Gf.pow, h.exp_log a ha h0]
    _ = gf.pow gf.order := by rw [h.pow_mul_pow, Nat.add_sub_cancel' (h.log_le a ha)]
    _ = 1 := h.pow_order

/-- Inverses are unique, as in every commutative monoid. -/
theorem Gf.LogInvertsExp.mul_eq_one_iff (ha : a.toNat ≤ gf.order) (hb : b.toNat ≤ gf.order) (h0 : a ≠ 0) :
    gf.mul a b = 1 ↔ b = gf.pow (gf.order - gf.log a) := by
  have hinv := h.mul_inverse ha h0
  have hle := h.pow_le (gf.order - gf.log a)
  constructor
  · intro hab
    calc b = gf.mul (gf.mul (gf.pow (gf.order - gf.log a)) a) b := by rw [gf.mul_comm _ a, hinv, h.one_mul hb]
      _ = gf.mul 1 (gf.pow (gf.order - gf.log a)) := by rw [h.mul_assoc hle ha hb, hab, gf.mul_comm]
      _ = gf.pow (gf.order - gf.log a) := h.one_mul hle
  · rintro rfl
    exact hinv

/-! The laws that need the polynomial product. -/

variable {product : Byte → Byte → Byte} (hp : gf.ExpListsPowers product)
include hp

theorem Gf.LogInvertsExp.pow_succ (k : Nat) : gf.pow (k + 1) = product (gf.pow k) 2 := by
  have hlt := Nat.mod_lt k h.order_pos
  rw [Gf.pow, Gf.pow, ← Nat.mod_add_mod]
  obtain hk | hk : k % gf.order < gf.order - 1 ∨ k % gf.order = gf.order - 1 := by omega
  · rw [Nat.mod_eq_of_lt (by omega), hp.exp_succ _ hk]
  · rw [hk, Nat.sub_add_cancel h.order_pos, Nat.mod_self, hp.exp_last]

theorem Gf.LogInvertsExp.product_pow_pow (i j : Nat) : product (gf.pow i) (gf.pow j) = gf.pow (i + j) := by
  induction i with
  | zero => rw [h.pow_zero, hp.one_product _ (h.pow_le j), Nat.zero_add]
  | succ i ih => rw [h.pow_succ hp, hp.product_mul_alpha, ih, ← h.pow_succ hp, Nat.add_right_comm]

/-- R164: the product through the tables is the one without them, element by element. -/
theorem Gf.LogInvertsExp.mul_eq_product (ha : a.toNat ≤ gf.order) (hb : b.toNat ≤ gf.order) :
    gf.mul a b = product a b := by
  obtain rfl | ⟨j, rfl⟩ := h.eq_zero_or_pow hb
  · rw [gf.mul_zero, hp.product_zero]
  obtain rfl | ⟨i, rfl⟩ := h.eq_zero_or_pow ha
  · rw [gf.zero_mul, hp.zero_product]
  · rw [h.pow_mul_pow, h.product_pow_pow hp]

theorem Gf.LogInvertsExp.mul_xor {c : Byte} (ha : a.toNat ≤ gf.order) (hb : b.toNat ≤ gf.order)
    (hc : c.toNat ≤ gf.order) : gf.mul a (b ^^^ c) = gf.mul a b ^^^ gf.mul a c := by
  rw [h.mul_eq_product hp ha (hp.xor_le b c hb hc), h.mul_eq_product hp ha hb, h.mul_eq_product hp ha hc,
    hp.product_xor]

end

end Sys2Proof.Machine
end

section
/-! SUPPORT. The two fields of 41_gf_arith.md: their tables, their products and their commands. -/

namespace Sys2Proof.Machine

/-! R41 to R44: the tables are those of a field. -/

theorem gf16_logInvertsExp : gf16.LogInvertsExp where
  order_pos := by decide
  exp_zero := rfl
  exp_ne_zero := by decide
  exp_le := by decide
  log_one := rfl
  log_exp := log16_exp16
  log_le := by decide
  exp_log := by decide

theorem gf256_logInvertsExp : gf256.LogInvertsExp where
  order_pos := by decide
  exp_zero := rfl
  exp_ne_zero := by decide +kernel
  exp_le k _ := Nat.le_of_lt_succ (exp256 k).isLt
  log_one := rfl
  log_exp := log256_exp256
  log_le := by decide +kernel
  exp_log := by decide +kernel

theorem gf16_expListsPowers : gf16.ExpListsPowers polyProduct16 where
  xor_le a b ha hb := by
    rw [BitVec.toNat_xor]
    exact Nat.le_of_lt_succ (Nat.xor_lt_two_pow (n := 4) (Nat.lt_succ_of_le ha) (Nat.lt_succ_of_le hb))
  exp_succ := exp16_succ
  exp_last := by decide
  one_product := by decide +kernel
  xor_product := reducedProduct_xor_left 0x13 4
  product_xor := reducedProduct_xor_right 0x13 4
  product_mul_alpha := polyProduct16_mul_alpha

theorem gf256_expListsPowers : gf256.ExpListsPowers polyProduct256 where
  xor_le a b _ _ := Nat.le_of_lt_succ (a ^^^ b).isLt
  exp_succ := exp256_succ
  exp_last := by decide
  one_product := by decide +kernel
  xor_product := reducedProduct_xor_left 0x11D 8
  product_xor := reducedProduct_xor_right 0x11D 8
  product_mul_alpha := polyProduct256_mul_alpha

/-- Every byte is an element of GF(256). -/
theorem toNat_le_order256 (a : Byte) : a.toNat ≤ gf256.order := Nat.le_of_lt_succ a.isLt

/-! The field laws (R164). -/

/-- Settles O16: element by element, as powers of `alpha`. -/
theorem tableProductsArePolynomialProducts : Obligations.TableProductsArePolynomialProducts :=
  ⟨fun _ _ ha hb => gf16_logInvertsExp.mul_eq_product gf16_expListsPowers ha hb,
    fun a b => gf256_logInvertsExp.mul_eq_product gf256_expListsPowers (toNat_le_order256 a) (toNat_le_order256 b)⟩

/-- Settles O17, by the laws of a field's tables. -/
theorem mul256FieldLaws : Obligations.Mul256FieldLaws := by
  intro a b c
  have hle := toNat_le_order256
  have h := gf256_logInvertsExp
  exact ⟨gf256.mul_comm a b, h.mul_assoc (hle a) (hle b) (hle c),
    h.mul_xor gf256_expListsPowers (hle a) (hle b) (hle c), h.one_mul (hle a), gf256.zero_mul a,
    fun h0 a' => h.mul_eq_one_iff (hle a) (hle a') h0, h.eq_zero_or_eq_zero_of_mul_eq_zero⟩

/-- Settles O18, by the laws of a field's tables. -/
theorem mul16FieldLaws : Obligations.Mul16FieldLaws := by
  intro a b c ha hb hc
  have h := gf16_logInvertsExp
  exact ⟨h.mul_le, gf16.mul_comm a b, h.mul_assoc ha hb hc, h.mul_xor gf16_expListsPowers ha hb hc, h.one_mul ha,
    gf16.zero_mul a, h.mul_eq_one_iff ha hb, h.eq_zero_or_eq_zero_of_mul_eq_zero⟩

/-! The commands (R167, R168). -/

/-- Settles O14, by the two cases of the operand check. -/
theorem gf16MulWritesProduct : Obligations.Gf16MulWritesProduct := by
  refine ⟨encodeThenDecode .gf16Mul, fun s => ?_⟩
  rw [exec_gf16Mul]
  obtain ⟨hbad, heff⟩ | ⟨ha, hb, heff⟩ := gf16MulEffect_cases s <;> rw [heff]
  · exact ⟨fun hok => by omega, fun _ => rfl⟩
  · exact ⟨fun _ => rfl, fun hbad => by omega⟩

/-- Settles O15: the command has no check, and its effect is the product. -/
theorem gf256MulWritesProduct : Obligations.Gf256MulWritesProduct :=
  ⟨encodeThenDecode .gf256Mul, exec_gf256Mul⟩

end Sys2Proof.Machine
end

section
/-! SUPPORT. The syndromes (42_syndrome.md R181, R183) as values of polynomials, and what the two commands leave. -/

namespace Sys2Proof.Machine

/-! Horner evaluation at a power of `alpha` (R164) is the sum, term by term, that the units compute. -/

theorem Gf.horner_cons (gf : Gf) (x c : Byte) (cs : List Byte) :
    horner gf.mul x (c :: cs) = cs.foldl (fun acc c => gf.mul acc x ^^^ c) c := by
  rw [horner, List.foldl_cons, gf.zero_mul]
  exact congrArg (cs.foldl _) BitVec.zero_xor

section
variable {gf : Gf} (h : gf.LogInvertsExp)
include h

theorem Gf.LogInvertsExp.mul_pow {a : Byte} (ha : a.toNat ≤ gf.order) (h0 : a ≠ 0) (k : Nat) :
    gf.mul a (gf.pow k) = gf.pow (gf.log a + k) := by
  rw [← h.pow_mul_pow, Gf.pow, Gf.pow, h.exp_log a ha h0]

theorem Gf.LogInvertsExp.alphaPower_eq_pow (hα : gf.pow 1 = 2) (k : Nat) : alphaPower gf.mul k = gf.pow k :=
  (eq_alphaPower h.pow_zero (fun j _ => by rw [← hα, h.pow_mul_pow]) le_rfl).symm

variable {product : Byte → Byte → Byte} (hp : gf.ExpListsPowers product)
include hp

theorem Gf.LogInvertsExp.xor_mul {a b c : Byte} (ha : a.toNat ≤ gf.order) (hb : b.toNat ≤ gf.order)
    (hc : c.toNat ≤ gf.order) : gf.mul (a ^^^ b) c = gf.mul a c ^^^ gf.mul b c := by
  rw [gf.mul_comm, h.mul_xor hp hc ha hb, gf.mul_comm c, gf.mul_comm c]

/-- Horner evaluation from an accumulator `a` is that from 0, plus `a` times the highest power. -/
theorem Gf.LogInvertsExp.foldl_horner (i : Nat) {coeffs : List Byte} (hle : ∀ c ∈ coeffs, c.toNat ≤ gf.order)
    {a : Byte} (ha : a.toNat ≤ gf.order) :
    coeffs.foldl (fun acc c => gf.mul acc (gf.pow i) ^^^ c) a =
      gf.mul a (gf.pow (i * coeffs.length)) ^^^ horner gf.mul (gf.pow i) coeffs := by
  induction coeffs generalizing a with
  | nil =>
    rw [List.length_nil, Nat.mul_zero, h.pow_zero, gf.mul_comm, h.one_mul ha]
    exact BitVec.xor_zero.symm
  | cons c cs ih =>
    obtain ⟨hc, hcs⟩ := List.forall_mem_cons.1 hle
    have hpow := h.pow_le (i * cs.length)
    have hfirst : horner gf.mul (gf.pow i) (c :: cs) =
        gf.mul c (gf.pow (i * cs.length)) ^^^ horner gf.mul (gf.pow i) cs := by
      rw [gf.horner_cons, ih hcs hc]
    rw [List.foldl_cons, ih hcs (hp.xor_le _ _ h.mul_le hc), h.xor_mul hp h.mul_le hc hpow,
      h.mul_assoc ha (h.pow_le i) hpow, h.pow_mul_pow, BitVec.xor_assoc, ← hfirst, List.length_cons, Nat.mul_succ,
      Nat.add_comm i]

/-- A sum of the terms `c j * alpha^(i * j)` is the Horner evaluation at `alpha^i`, highest power first. -/
theorem Gf.LogInvertsExp.foldl_range_eq_horner (i n : Nat) {c : Nat → Byte} (hc : ∀ j, (c j).toNat ≤ gf.order)
    {op : Byte → Nat → Byte} (hop : ∀ acc j, op acc j = acc ^^^ gf.mul (c j) (gf.pow (i * j))) :
    (List.range n).foldl op 0 = horner gf.mul (gf.pow i) ((List.range n).reverse.map c) := by
  induction n with
  | zero => rfl
  | succ n ih =>
    have hle : ∀ b ∈ (List.range n).reverse.map c, b.toNat ≤ gf.order := by simp [hc]
    calc (List.range (n + 1)).foldl op 0
        = horner gf.mul (gf.pow i) ((List.range n).reverse.map c) ^^^ gf.mul (c n) (gf.pow (i * n)) := by
          rw [List.range_succ, List.foldl_append, List.foldl_cons, List.foldl_nil, hop, ih]
      _ = horner gf.mul (gf.pow i) (c n :: (List.range n).reverse.map c) := by
          rw [gf.horner_cons, h.foldl_horner hp i hle (hc n), List.length_map, List.length_reverse,
            List.length_range, BitVec.xor_comm]
      _ = horner gf.mul (gf.pow i) ((List.range (n + 1)).reverse.map c) := by
          rw [List.range_succ, List.reverse_concat, List.map_cons]

end

/-- R181: `U(alpha^(i+1))`. -/
theorem fmtSyndrome_eq_horner (u : BitVec 15) (i : Nat) :
    fmtSyndrome u i = horner gf16.mul (alphaPower gf16.mul (i + 1)) (wordCoeffs u) := by
  have h := gf16_logInvertsExp
  have hbit : ∀ j, (if u.getLsbD j then 1 else 0 : Byte).toNat ≤ gf16.order := fun j => by split <;> decide
  rw [h.alphaPower_eq_pow rfl]
  refine h.foldl_range_eq_horner gf16_expListsPowers (i + 1) 15 hbit fun acc j => ?_
  cases u.getLsbD j with
  | false => exact ((congrArg (acc ^^^ ·) (gf16.zero_mul _)).trans BitVec.xor_zero).symm
  | true => exact (congrArg (acc ^^^ ·) (h.one_mul (h.pow_le _))).symm

/-- A block's bytes in order are its coefficients from the highest power down (R91). -/
theorem map_blockCoeff_reverse_range (blk : List Byte) :
    (List.range blk.length).reverse.map (blockCoeff blk blk.length) = blk := by
  refine List.ext_getElem (by simp) fun k _ hk => ?_
  have hidx : blk.length - (blk.length - 1 - k) - 1 = k := by omega
  simp [blockCoeff, hidx, hk]

/-- R183: `R(alpha^i)`. -/
theorem blkSyndrome_eq_horner (blk : List Byte) (i : Nat) :
    blkSyndrome blk blk.length i = horner gf256.mul (alphaPower gf256.mul i) blk := by
  have h := gf256_logInvertsExp
  rw [h.alphaPower_eq_pow rfl]
  refine (h.foldl_range_eq_horner gf256_expListsPowers i blk.length (fun j => toNat_le_order256 _)
    fun acc j => ?_).trans (by rw [map_blockCoeff_reverse_range])
  split
  · next h0 =>
    rw [h0, gf256.zero_mul]
    exact BitVec.xor_zero.symm
  · next h0 => exact (congrArg (acc ^^^ ·) (h.mul_pow (toNat_le_order256 _) h0 (i * j))).symm

/-! What the commands leave (R180, R182). -/

theorem anyNonzero_tabulate_iff (v : Nat → Byte) :
    anyNonzero (Poly.tabulate v) = true ↔ ∃ i, i < 64 ∧ v i ≠ 0 := by
  simp [anyNonzero, Poly.tabulate]

/-- A completed store of syndromes `v`: they stand in S, NZ says whether one is nonzero, and nothing else changes. -/
theorem State.storeSyndromes_complete (s : State) (v : Nat → Byte) : ∃ mem nz,
    (s.storeSyndromes (Poly.tabulate v)).complete .success =
      { s with mem := mem, status := completedStatus s.status 0 nz, irqPend := true } ∧
    (∀ i, i < 64 → ({ s with mem := mem } : State).buf .s i = v i) ∧
    (nz = true ↔ ∃ i, i < 64 ∧ ({ s with mem := mem } : State).buf .s i ≠ 0) ∧
    sameBytesOutside [.s] s { s with mem := mem } := by
  have hbuf : ∀ i, i < 64 → (s.writeBuf .s (Poly.tabulate v)).buf .s i = v i := fun i hi => by
    rw [State.buf, State.byteAt_writeBuf, Poly.length_tabulate, if_pos ⟨Nat.le_add_right _ _, by omega⟩,
      Nat.add_sub_cancel_left, ← Poly.coeff, Poly.coeff_tabulate, if_pos hi]
  refine ⟨(s.writeBuf .s (Poly.tabulate v)).mem, anyNonzero (Poly.tabulate v), rfl, hbuf, ?_, fun a ha => ?_⟩
  · exact (anyNonzero_tabulate_iff v).trans
      (exists_congr fun i => and_congr_right fun hi => not_congr (by rw [← hbuf i hi]; rfl))
  · exact (s.byteAt_writeBuf .s _ a).trans
      (if_neg ((Poly.length_tabulate v).symm ▸ ha .s List.mem_cons_self))

/-- R302's condition for SYND256 is R182's check. -/
theorem badParam_synd256_iff (s : State) : badParam .synd256 s ↔ blockAdmitted s.bs s.dw = false := by
  rw [← Bool.not_eq_true, blockAdmitted_iff, State.bs, State.dw, badParam]
  omega

/-- Settles O20: the format syndromes are values of the word's polynomial. -/
theorem synd16WritesWordSyndromes : Obligations.Synd16WritesWordSyndromes := by
  refine ⟨encodeThenDecode .synd16, fun s => ?_⟩
  obtain ⟨mem, nz, hstate, hbuf, hrest⟩ :=
    s.storeSyndromes_complete fun i => if i < 6 then fmtSyndrome s.fmtA i else 0
  simp only [fmtSyndrome_eq_horner] at hbuf
  exact ⟨mem, nz, congrArg Host.Outcome.next hstate, hbuf, hrest⟩

/-- Settles O21, by the two cases of the operand check: the block syndromes are values of the block's polynomial. -/
theorem synd256WritesBlockSyndromes : Obligations.Synd256WritesBlockSyndromes := by
  refine ⟨encodeThenDecode .synd256, fun s => ?_⟩
  rw [badParam_synd256_iff, exec_synd256]
  obtain ⟨hbad, heff⟩ | ⟨hok, heff⟩ := synd256Effect_cases s <;> rw [heff]
  · exact ⟨fun _ => rfl, fun hgood => absurd hbad hgood⟩
  · refine ⟨fun hbad => Bool.noConfusion (hok.symm.trans hbad), fun _ => ?_⟩
    obtain ⟨mem, nz, hstate, hbuf, hrest⟩ := s.storeSyndromes_complete fun i =>
      if i < parityCount s.bs s.dw then blkSyndrome (s.bufPrefix .blk s.bs) s.bs i else 0
    have hsyn : ∀ i, blkSyndrome (s.bufPrefix .blk s.bs) s.bs i =
        horner gf256.mul (alphaPower gf256.mul i) (s.bufPrefix .blk s.bs) := fun i => by
      rw [← blkSyndrome_eq_horner, State.length_bufPrefix]
    simp only [hsyn] at hbuf
    exact ⟨mem, nz, congrArg Host.Outcome.next hstate, hbuf, hrest⟩

end Sys2Proof.Machine
end

section
/-! SUPPORT. The code of the format words (44_format_bch.md R220) and its syndromes (42_syndrome.md R184). -/

namespace Sys2Proof.Machine

theorem anyNonzero_fmtSyndromes_eq_false_iff (u : BitVec 15) :
    anyNonzero (fmtSyndromes u) = false ↔ ∀ i < 6, fmtSyndrome u i = 0 := by
  rw [← Bool.not_eq_true, fmtSyndromes, anyNonzero_tabulate_iff]
  constructor
  · intro hnone i hi
    by_contra h0
    exact hnone ⟨i, by omega, by rwa [if_pos hi]⟩
  · rintro hzero ⟨i, -, h0⟩
    split at h0
    · next hi => exact h0 (hzero i hi)
    · exact h0 rfl

/-- The syndromes are linear in the word. -/
theorem fmtSyndrome_xor (u v : BitVec 15) (i : Nat) :
    fmtSyndrome (u ^^^ v) i = fmtSyndrome u i ^^^ fmtSyndrome v i := by
  refine foldl_zero_xor _ fun x y j => ?_
  rw [BitVec.getLsbD_xor]
  exact if_xor_if_same _ _ _ _ _

/-- The code is systematic: a codeword's top five bits are its data (R220). -/
theorem extractLsb'_bchCodeword : ∀ d : BitVec 5, (bchCodeword d).extractLsb' 10 5 = d := by decide +kernel

theorem fmtSyndrome_bchCodeword : ∀ d : BitVec 5, ∀ i < 6, fmtSyndrome (bchCodeword d) i = 0 := by decide +kernel

/-- No word of ten check bits alone, other than 0, has all syndromes 0. -/
theorem eq_zero_of_fmtSyndrome_eq_zero :
    ∀ r : BitVec 10, (∀ i < 6, fmtSyndrome (r.setWidth 15) i = 0) → r = 0 := by decide +kernel

/-- A word with no data bit set is its ten check bits. -/
theorem setWidth_setWidth_of_data_eq_zero {u : BitVec 15} (h : u.extractLsb' 10 5 = 0) :
    (u.setWidth 10).setWidth 15 = u := by
  have hdata : u.toNat / 1024 % 32 = 0 := by simpa [Nat.shiftRight_eq_div_pow] using congrArg BitVec.toNat h
  refine BitVec.eq_of_toNat_eq ?_
  rw [BitVec.toNat_setWidth, BitVec.toNat_setWidth]
  omega

/-- A word with no data bit set and all syndromes 0 is 0. -/
theorem eq_zero_of_data_eq_zero {u : BitVec 15} (hdata : u.extractLsb' 10 5 = 0)
    (hzero : ∀ i < 6, fmtSyndrome u i = 0) : u = 0 := by
  have hcheck := setWidth_setWidth_of_data_eq_zero hdata
  rw [← hcheck, eq_zero_of_fmtSyndrome_eq_zero (u.setWidth 10) (by rwa [hcheck])]
  rfl

/-- Settles O22: by linearity a word has the syndromes of its difference from the codeword of its data bits, which is
a word of check bits alone. -/
theorem formatSyndromesZeroIffCodeword : Obligations.FormatSyndromesZeroIffCodeword := by
  intro u
  rw [anyNonzero_fmtSyndromes_eq_false_iff]
  constructor
  · intro hzero
    refine BitVec.xor_eq_zero_iff.1 (eq_zero_of_data_eq_zero ?_ fun i hi => ?_)
    · rw [BitVec.extractLsb'_xor, extractLsb'_bchCodeword]
      exact BitVec.xor_self
    · rw [fmtSyndrome_xor, hzero i hi, fmtSyndrome_bchCodeword _ i hi]
      exact BitVec.xor_self
  · intro hcode
    rw [hcode]
    exact fmtSyndrome_bchCodeword _

end Sys2Proof.Machine
end

section
/-! SUPPORT. The solver (43_berlekamp_massey.md R201) on every field record: its sums, the coefficients of R165's
addition, and the constant term and length of the locator (R203). -/

namespace Sys2Proof.Machine

/-! Sums over a range, as the units compute them. -/

/-- `f 0 ⊕ … ⊕ f (n - 1)`. -/
def xorSum (n : Nat) (f : Nat → Byte) : Byte := (List.range n).foldl (fun acc i => acc ^^^ f i) 0

/-- A sum accumulated onto `a` is `a` plus the sum. -/
theorem foldl_range_xor (n : Nat) (f : Nat → Byte) (a : Byte) :
    (List.range n).foldl (fun acc i => acc ^^^ f i) a = a ^^^ xorSum n f :=
  calc (List.range n).foldl (fun acc i => acc ^^^ f i) a
      = (List.range n).foldl (fun acc i => acc ^^^ f i) (a ^^^ 0) := congrArg (List.foldl _ · _) BitVec.xor_zero.symm
    _ = a ^^^ xorSum n f := List.foldl_hom (a ^^^ ·) fun _ _ => BitVec.xor_assoc _ _ _

theorem xorSum_succ (n : Nat) (f : Nat → Byte) : xorSum (n + 1) f = xorSum n f ^^^ f n := by
  rw [xorSum, List.range_succ, List.foldl_append]
  rfl

theorem xorSum_add (m n : Nat) (f : Nat → Byte) :
    xorSum (m + n) f = xorSum m f ^^^ xorSum n fun i => f (m + i) := by
  rw [xorSum, List.range_add, List.foldl_append, List.foldl_map]
  exact foldl_range_xor n _ _

theorem xorSum_congr {n : Nat} {f g : Nat → Byte} (hfg : ∀ i, i < n → f i = g i) : xorSum n f = xorSum n g :=
  List.foldl_ext _ _ _ fun acc i hi => congrArg (acc ^^^ ·) (hfg i (List.mem_range.1 hi))

theorem xorSum_eq_zero {n : Nat} {f : Nat → Byte} (hf : ∀ i, i < n → f i = 0) : xorSum n f = 0 := by
  induction n with
  | zero => rfl
  | succ n ih =>
    rw [xorSum_succ, ih fun i hi => hf i (by omega), hf n n.lt_succ_self]
    exact BitVec.xor_zero

theorem xorSum_xor (n : Nat) (f g : Nat → Byte) :
    xorSum n (fun i => f i ^^^ g i) = xorSum n f ^^^ xorSum n g :=
  foldl_zero_xor _ fun x y i => by ac_rfl

/-! R165, coefficient by coefficient. -/

/-- The coefficient of `x^i` in `c * x^shift * src(x)`. -/
def Gf.shiftedCoeff (gf : Gf) (src : Poly) (c : Byte) (shift i : Nat) : Byte :=
  if i < shift then 0 else gf.mul (src.coeff (i - shift)) c

theorem coeff_polyAdd (gf : Gf) {dst : Poly} (hdst : dst.length = 64) (src : Poly) (c : Byte) (shift i : Nat) :
    (polyAdd gf dst src c shift).coeff i =
      if i < 64 then dst.coeff i ^^^ gf.shiftedCoeff src c shift i else 0 := by
  unfold polyAdd Gf.shiftedCoeff
  by_cases hc : c = 0
  · subst hc
    rw [if_pos rfl, gf.mul_zero, ite_self]
    split
    · exact BitVec.xor_zero.symm
    · exact List.getD_eq_default _ _ (by omega)
  · rw [if_neg hc, Poly.coeff_tabulate]
    refine if_congr Iff.rfl ?_ rfl
    by_cases hi : i < shift
    · rw [if_pos (.inl hi), if_pos hi]
      exact BitVec.xor_zero.symm
    · rw [if_neg hi, Gf.mul]
      by_cases h0 : src.coeff (i - shift) = 0
      · rw [if_pos (.inr h0), if_pos (.inl h0)]
        exact BitVec.xor_zero.symm
      · rw [if_neg (not_or.2 ⟨hi, h0⟩), if_neg (not_or.2 ⟨h0, hc⟩)]

/-- R165 leaves every coefficient below the shift. -/
theorem coeff_polyAdd_of_lt (gf : Gf) {dst : Poly} (hdst : dst.length = 64) (src : Poly) (c : Byte) {shift i : Nat}
    (hi : i < shift) (h64 : i < 64) : (polyAdd gf dst src c shift).coeff i = dst.coeff i := by
  rw [coeff_polyAdd gf hdst, if_pos h64, Gf.shiftedCoeff, if_pos hi]
  exact BitVec.xor_zero

/-- R201: the discrepancy is `s[n] ⊕ C[1] s[n-1] ⊕ … ⊕ C[L] s[n-L]`. -/
theorem bmDiscrepancy_eq (gf : Gf) (syn C : Poly) (L n : Nat) :
    bmDiscrepancy gf syn C L n =
      syn.coeff n ^^^ xorSum L fun k => gf.mul (C.coeff (k + 1)) (syn.coeff (n - (k + 1))) := by
  rw [← foldl_range_xor]
  refine List.foldl_ext _ _ _ fun acc k _ => ?_
  rw [Gf.mul]
  by_cases h0 : C.coeff (k + 1) = 0 ∨ syn.coeff (n - (k + 1)) = 0
  · rw [if_neg (by tauto), if_pos h0]
    exact BitVec.xor_zero.symm
  · rw [if_pos (not_or.1 h0), if_neg h0]

/-! R203: what holds whatever the tables are. -/

theorem bm_coeff_zero_length_distance (gf : Gf) (syn : Poly) (N : Nat) :
    (bm gf syn N).C.coeff 0 = 1 ∧ (bm gf syn N).L ≤ N ∧ 1 ≤ (bm gf syn N).m := by
  induction N with
  | zero => exact ⟨rfl, le_rfl, le_rfl⟩
  | succ N ih =>
    obtain ⟨hC, hL, hm⟩ := ih
    have hadd : ∀ c, (polyAdd gf (bm gf syn N).C (bm gf syn N).B c (bm gf syn N).m).coeff 0 = 1 := fun c =>
      (coeff_polyAdd_of_lt gf (length_bm gf syn N).1 _ c hm (by decide)).trans hC
    rw [bm_succ]
    obtain ⟨-, hstep⟩ | ⟨-, -, hstep⟩ | ⟨-, -, hstep⟩ := bmStep_cases gf syn (bm gf syn N) N <;> rw [hstep]
    · exact ⟨hC, Nat.le_succ_of_le hL, Nat.le_add_left 1 _⟩
    · exact ⟨hadd _, Nat.sub_le _ _, le_rfl⟩
    · exact ⟨hadd _, Nat.le_succ_of_le hL, Nat.le_add_left 1 _⟩

/-- Settles O25, by induction on the number of iterations: R165 shifts by at least 1. -/
theorem locatorConstantTermAndLength : Obligations.LocatorConstantTermAndLength := fun gf syn N =>
  have ⟨hC, hL, _⟩ := bm_coeff_zero_length_distance gf syn N
  ⟨hC, hL⟩

end Sys2Proof.Machine
end

section
/-! SUPPORT. The locator as a feedback register (43_berlekamp_massey.md R203), over a field whose tables satisfy R164's
laws: the solver keeps two registers that generate the syndromes read so far. -/

namespace Sys2Proof.Machine

/-- The coefficient of `x^k` in the product of `p` and the polynomial of the syndromes. -/
def Gf.conv (gf : Gf) (p syn : Poly) (k : Nat) : Byte :=
  xorSum (k + 1) fun i => gf.mul (p.coeff i) (syn.coeff (k - i))

theorem Gf.ExpListsPowers.xorSum_le {gf : Gf} {product : Byte → Byte → Byte} (hp : gf.ExpListsPowers product) (n : Nat)
    {f : Nat → Byte} (hf : ∀ i, (f i).toNat ≤ gf.order) : (xorSum n f).toNat ≤ gf.order := by
  induction n with
  | zero => exact Nat.zero_le _
  | succ n ih =>
    rw [xorSum_succ]
    exact hp.xor_le _ _ ih (hf n)

/-- `p` is a feedback register of length `L` that generates `s[0..n)`. -/
structure IsRegister (gf : Gf) (syn p : Poly) (L n : Nat) : Prop where
  length : p.length = 64
  element : ∀ i, (p.coeff i).toNat ≤ gf.order
  degree : ∀ i, L < i → p.coeff i = 0
  generates : ∀ k, L ≤ k → k < n → gf.conv p syn k = 0

/-- From index `L` on, a register's recurrence has `L + 1` terms. -/
theorem IsRegister.conv_eq {gf : Gf} {syn p : Poly} {L n k : Nat} (hp : IsRegister gf syn p L n) (hk : L ≤ k) :
    gf.conv p syn k = xorSum (L + 1) fun i => gf.mul (p.coeff i) (syn.coeff (k - i)) := by
  obtain ⟨j, rfl⟩ := Nat.exists_eq_add_of_le hk
  have htail : (xorSum j fun i => gf.mul (p.coeff (L + 1 + i)) (syn.coeff (L + j - (L + 1 + i)))) = 0 :=
    xorSum_eq_zero fun i _ => by rw [hp.degree _ (by omega), gf.zero_mul]
  rw [Gf.conv, Nat.add_right_comm, xorSum_add, htail]
  exact BitVec.xor_zero

/-- What the solver's variables are before iteration `n` (R201): `C` generates the syndromes before it with length
`L`; `B` generated those before the last length change, `m` iterations ago, and there its discrepancy was `b`. -/
structure BmInv (gf : Gf) (syn : Poly) (t : BmState) (n : Nat) : Prop where
  current : IsRegister gf syn t.C t.L n
  length_le : t.L ≤ n
  distance_le : t.L + t.m ≤ n + 1
  previous : IsRegister gf syn t.B (n + 1 - t.m - t.L) (n - t.m)
  discrepancy : t.m ≤ n → gf.conv t.B syn (n - t.m) = t.b
  element : t.b.toNat ≤ gf.order
  ne_zero : t.b ≠ 0

section
variable {gf : Gf} (h : gf.LogInvertsExp)
include h

/-- R201: the scale factor is `d / b`. -/
theorem Gf.LogInvertsExp.bmScale_mul {b d : Byte} (hb : b.toNat ≤ gf.order) (hb0 : b ≠ 0) (hd : d.toNat ≤ gf.order)
    (hd0 : d ≠ 0) : gf.mul (bmScale gf b d) b = d :=
  calc gf.mul (bmScale gf b d) b
      = gf.mul b (gf.pow (gf.order - gf.log b + gf.log d)) := gf.mul_comm _ _
    _ = gf.pow (gf.order + gf.log d) := by
      rw [h.mul_pow hb hb0, ← Nat.add_assoc, Nat.add_sub_cancel' (h.log_le b hb)]
    _ = d := by rw [Gf.pow, Nat.add_mod_left, h.exp_log d hd hd0]

theorem Gf.LogInvertsExp.shiftedCoeff_le (src : Poly) (c : Byte) (shift i : Nat) :
    (gf.shiftedCoeff src c shift i).toNat ≤ gf.order := by
  unfold Gf.shiftedCoeff
  split
  · exact Nat.zero_le _
  · exact h.mul_le

/-- The discrepancy of a register with constant term 1 is the value of its recurrence. -/
theorem IsRegister.bmDiscrepancy_eq_conv {syn C : Poly} {L n : Nat} (hC : IsRegister gf syn C L n)
    (hone : C.coeff 0 = 1) (hL : L ≤ n) (hs : (syn.coeff n).toNat ≤ gf.order) :
    bmDiscrepancy gf syn C L n = gf.conv C syn n := by
  have hfirst : (xorSum 1 fun i => gf.mul (C.coeff i) (syn.coeff (n - i))) = syn.coeff n := by
    rw [xorSum_succ, hone, Nat.sub_zero, h.one_mul hs]
    exact BitVec.zero_xor
  rw [bmDiscrepancy_eq, hC.conv_eq hL, Nat.add_comm L 1, xorSum_add, hfirst]
  simp only [Nat.add_comm 1]

theorem bmInv_bmInit (syn : Poly) : BmInv gf syn bmInit 0 := by
  have hone : IsRegister gf syn Poly.one 0 0 := {
    length := Poly.length_tabulate _
    element := fun i => by
      rw [Poly.one, Poly.coeff_tabulate]
      split
      · split
        · exact h.order_pos
        · exact Nat.zero_le _
      · exact Nat.zero_le _
    degree := fun i hi => by rw [Poly.one, Poly.coeff_tabulate, if_neg (Nat.ne_of_gt hi), ite_self]
    generates := fun k _ hk => absurd hk k.not_lt_zero }
  exact {
    current := hone
    length_le := le_rfl
    distance_le := le_rfl
    previous := hone
    discrepancy := fun hm => absurd hm (by decide)
    element := h.order_pos
    ne_zero := by decide }

variable {product : Byte → Byte → Byte} (hp : gf.ExpListsPowers product)
include hp

theorem Gf.LogInvertsExp.mul_xorSum {c : Byte} (hc : c.toNat ≤ gf.order) (n : Nat) {f : Nat → Byte}
    (hf : ∀ i, (f i).toNat ≤ gf.order) : gf.mul c (xorSum n f) = xorSum n fun i => gf.mul c (f i) := by
  induction n with
  | zero => exact gf.mul_zero c
  | succ n ih => rw [xorSum_succ, xorSum_succ, h.mul_xor hp hc (hp.xorSum_le n hf) (hf n), ih]

/-- R165 under the product with the syndromes: a shift by `m` moves the recurrence by `m`. -/
theorem Gf.LogInvertsExp.conv_polyAdd {syn C B : Poly} {c : Byte} {m j : Nat} (hlen : C.length = 64)
    (hC : ∀ i, (C.coeff i).toNat ≤ gf.order) (hB : ∀ i, (B.coeff i).toNat ≤ gf.order) (hc : c.toNat ≤ gf.order)
    (hs : ∀ k, k ≤ m + j → (syn.coeff k).toNat ≤ gf.order) (hj : m + j < 64) :
    gf.conv (polyAdd gf C B c m) syn (m + j) = gf.conv C syn (m + j) ^^^ gf.mul c (gf.conv B syn j) := by
  have hlow : (xorSum m fun i => gf.mul (gf.shiftedCoeff B c m i) (syn.coeff (m + j - i))) = 0 :=
    xorSum_eq_zero fun i hi => by rw [Gf.shiftedCoeff, if_pos hi, gf.zero_mul]
  have hhigh : ∀ i, i < j + 1 → gf.mul (gf.shiftedCoeff B c m (m + i)) (syn.coeff (m + j - (m + i))) =
      gf.mul c (gf.mul (B.coeff i) (syn.coeff (j - i))) := fun i _ => by
    rw [Gf.shiftedCoeff, if_neg (by omega), Nat.add_sub_cancel_left, Nat.add_sub_add_left, gf.mul_comm (B.coeff i),
      h.mul_assoc hc (hB i) (hs _ (by omega))]
  calc gf.conv (polyAdd gf C B c m) syn (m + j)
      = xorSum (m + j + 1) fun i => gf.mul (C.coeff i) (syn.coeff (m + j - i)) ^^^
          gf.mul (gf.shiftedCoeff B c m i) (syn.coeff (m + j - i)) :=
        xorSum_congr fun i hi => by
          rw [coeff_polyAdd gf hlen, if_pos (by omega), h.xor_mul hp (hC i) (h.shiftedCoeff_le _ _ _ _)
            (hs _ (by omega))]
    _ = gf.conv C syn (m + j) ^^^ gf.mul c (gf.conv B syn j) := by
        rw [xorSum_xor, Nat.add_assoc m j 1, xorSum_add m (j + 1) fun i => gf.mul (gf.shiftedCoeff B c m i) _, hlow,
          xorSum_congr hhigh, Gf.conv, Gf.conv, h.mul_xorSum hp hc _ fun _ => h.mul_le]
        exact congrArg (_ ^^^ ·) BitVec.zero_xor

theorem Gf.LogInvertsExp.conv_le (p syn : Poly) (k : Nat) : (gf.conv p syn k).toNat ≤ gf.order :=
  hp.xorSum_le _ fun _ => h.mul_le

/-- The solver's update (R201): adding `(d / b) x^m B` cancels the discrepancy `d` of `C` at index `n`, and leaves a
register of any length `L'` that has room for both. -/
theorem BmInv.update {syn : Poly} {t : BmState} {n : Nat} (ht : BmInv gf syn t n) {d : Byte}
    (hd : gf.conv t.C syn n = d) (hd0 : d ≠ 0) {L' : Nat} (hL : t.L ≤ L') (hroom : n + 1 ≤ t.L + L') (hn : n < 64)
    (hs : ∀ k, k ≤ n → (syn.coeff k).toNat ≤ gf.order) :
    IsRegister gf syn (polyAdd gf t.C t.B (bmScale gf t.b d) t.m) L' (n + 1) := by
  obtain ⟨hC, -, hm, hB, hb, hble, hb0⟩ := ht
  have hdle : d.toNat ≤ gf.order := hd ▸ h.conv_le hp t.C syn n
  have hscale : (bmScale gf t.b d).toNat ≤ gf.order := h.pow_le _
  refine ⟨length_polyAdd _ _ _ _ _ hC.length, fun i => ?_, fun i hi => ?_, fun k hk hkn => ?_⟩
  · rw [coeff_polyAdd gf hC.length]
    split
    · exact hp.xor_le _ _ (hC.element i) (h.shiftedCoeff_le _ _ _ _)
    · exact Nat.zero_le _
  · rw [coeff_polyAdd gf hC.length, Gf.shiftedCoeff, hC.degree i (by omega), hB.degree _ (by omega), gf.zero_mul,
      ite_self]
    exact ite_self _
  · obtain ⟨j, rfl⟩ := Nat.exists_eq_add_of_le (show t.m ≤ k by omega)
    rw [h.conv_polyAdd hp hC.length hC.element hB.element hscale (fun i hi => hs i (by omega)) (by omega)]
    obtain hlt | rfl := Nat.lt_or_eq_of_le (Nat.le_of_lt_succ hkn)
    · rw [hC.generates _ (by omega) hlt, hB.generates j (by omega) (by omega), gf.mul_zero]
      exact BitVec.xor_zero
    · have hbj : gf.conv t.B syn j = t.b := by rw [← hb (by omega), Nat.add_sub_cancel_left]
      rw [hd, hbj, h.bmScale_mul hble hb0 hdle hd0]
      exact BitVec.xor_self

/-- Every iteration keeps the invariant, in R201's three cases. -/
theorem BmInv.step {syn : Poly} {t : BmState} {n : Nat} (ht : BmInv gf syn t n) (hone : t.C.coeff 0 = 1)
    (hn : n < 64) (hs : ∀ k, k ≤ n → (syn.coeff k).toNat ≤ gf.order) : BmInv gf syn (bmStep gf syn t n) (n + 1) := by
  have hd := ht.current.bmDiscrepancy_eq_conv h hone ht.length_le (hs n le_rfl)
  have ⟨hC, hL, hm, hB, hb, hble, hb0⟩ := ht
  -- without a length change only the distance to the last one grows
  have hBkeep : IsRegister gf syn t.B (n + 1 + 1 - (t.m + 1) - t.L) (n + 1 - (t.m + 1)) := by
    rwa [Nat.add_sub_add_right, Nat.add_sub_add_right]
  have hbkeep : t.m + 1 ≤ n + 1 → gf.conv t.B syn (n + 1 - (t.m + 1)) = t.b := fun hle => by
    rw [Nat.add_sub_add_right, hb (Nat.le_of_succ_le_succ hle)]
  obtain ⟨hd0, hstep⟩ | ⟨hd0, hrank, hstep⟩ | ⟨hd0, hrank, hstep⟩ := bmStep_cases gf syn t n <;> rw [hstep]
  · have hCkeep : IsRegister gf syn t.C t.L (n + 1) := { hC with
      generates := fun k hk hkn => by
        obtain hlt | rfl := Nat.lt_or_eq_of_le (Nat.le_of_lt_succ hkn)
        · exact hC.generates k hk hlt
        · exact hd.symm.trans hd0 }
    exact ⟨hCkeep, Nat.le_succ_of_le hL, Nat.succ_le_succ hm, hBkeep, hbkeep, hble, hb0⟩
  · have hC' := ht.update h hp hd.symm hd0 (L' := n + 1 - t.L) (by omega) (by omega) hn hs
    have hB' : IsRegister gf syn t.C (n + 1 + 1 - 1 - (n + 1 - t.L)) n := by
      rwa [Nat.add_sub_cancel, Nat.sub_sub_self (Nat.le_succ_of_le hL)]
    exact ⟨hC', Nat.sub_le _ _, Nat.succ_le_succ (Nat.sub_le _ _), hB', fun _ => hd.symm,
      hd ▸ h.conv_le hp t.C syn n, hd0⟩
  · have hC' := ht.update h hp hd.symm hd0 le_rfl (by omega) hn hs
    exact ⟨hC', Nat.le_succ_of_le hL, Nat.succ_le_succ hm, hBkeep, hbkeep, hble, hb0⟩

/-- The invariant holds after every number of iterations up to 64. -/
theorem bmInv_bm {syn : Poly} {N : Nat} (hN : N ≤ 64) (hs : ∀ k, k < N → (syn.coeff k).toNat ≤ gf.order) :
    BmInv gf syn (bm gf syn N) N := by
  induction N with
  | zero => exact bmInv_bmInit h syn
  | succ N ih =>
    rw [bm_succ]
    exact (ih (by omega) fun k hk => hs k (by omega)).step h hp (bm_coeff_zero_length_distance gf syn N).1 hN
      fun k hk => hs k (by omega)

/-- R203: the locator's recurrence sums to 0 at every index from its length on. -/
theorem bm_recurrence {syn : Poly} {N : Nat} (hN : N ≤ 64) (hs : ∀ k, k < N → (syn.coeff k).toNat ≤ gf.order)
    {n : Nat} (hL : (bm gf syn N).L ≤ n) (hn : n < N) :
    (xorSum ((bm gf syn N).L + 1) fun i => gf.mul ((bm gf syn N).C.coeff i) (syn.coeff (n - i))) = 0 := by
  have hC := (bmInv_bm h hp hN hs).current
  rw [← hC.conv_eq hL, hC.generates n hL hn]

end

/-- Settles O26, by the invariant of the solver's two registers, for both fields at once. -/
theorem locatorGeneratesSyndromes : Obligations.LocatorGeneratesSyndromes := by
  rintro gf syn N (rfl | rfl) hN hs n hL hn
  · exact bm_recurrence gf16_logInvertsExp gf16_expListsPowers (by omega) hs hL hn
  · exact bm_recurrence gf256_logInvertsExp gf256_expListsPowers (by omega) hs hL hn

end Sys2Proof.Machine
end

section
/-! SUPPORT. What BM16 and BM256 leave (43_berlekamp_massey.md R200, R202). -/

namespace Sys2Proof.Machine

/-- A completed store of a locator: its coefficients stand in SIGMA and its length in BM_L, and nothing else changes. -/
theorem State.storeLocator_complete (s : State) {r : BmState} (hlen : r.C.length = 64) : ∃ mem,
    (s.storeLocator r).complete .success =
      { s with
        mem := mem, bmL := BitVec.ofNat 7 r.L, status := completedStatus s.status 0 s.status.nz, irqPend := true } ∧
    (∀ i, i < 64 → ({ s with mem := mem } : State).buf .sigma i = r.C.coeff i) ∧
    sameBytesOutside [.sigma] s { s with mem := mem } := by
  refine ⟨(s.writeBuf .sigma r.C).mem, rfl, fun i hi => ?_, fun a ha => ?_⟩
  · refine (s.byteAt_writeBuf .sigma r.C _).trans ?_
    rw [if_pos ⟨Nat.le_add_right _ _, by omega⟩, Nat.add_sub_cancel_left, Poly.coeff]
  · exact (s.byteAt_writeBuf .sigma r.C a).trans (if_neg (hlen.symm ▸ ha .sigma List.mem_cons_self))

theorem outsideGf16_bufPrefix_iff (s : State) (b : Buf) (n : Nat) :
    outsideGf16 (s.bufPrefix b n) = true ↔ ∃ k, k < n ∧ 15 < (s.buf b k).toNat := by
  simp [outsideGf16, State.bufPrefix]

/-- R302's condition for BM16 is R200's check. -/
theorem badParam_bm16_iff (s : State) :
    badParam .bm16 s ↔ 64 < s.synCount ∨ outsideGf16 (s.bufPrefix .s s.synCount) = true :=
  or_congr Iff.rfl (outsideGf16_bufPrefix_iff s .s s.synCount).symm

/-- Settles O23, by the two cases of the operand check. -/
theorem bm16WritesLocator : Obligations.Bm16WritesLocator := by
  refine ⟨encodeThenDecode .bm16, fun s => ?_⟩
  rw [badParam_bm16_iff, exec_bm16]
  obtain ⟨hbad, heff⟩ | ⟨hN, hin, heff⟩ := bm16Effect_cases s <;> rw [heff]
  · exact ⟨fun _ => rfl, fun hgood => absurd hbad hgood⟩
  · refine ⟨fun hbad => absurd hbad (by simp [hin, hN]), fun _ => ?_⟩
    obtain ⟨mem, hstate, hrest⟩ := s.storeLocator_complete (length_bm gf16 (s.bufPrefix .s s.synCount) s.synCount).1
    exact ⟨mem, congrArg Host.Outcome.next hstate, hrest⟩

/-- Settles O24, by the two cases of the operand check. -/
theorem bm256WritesLocator : Obligations.Bm256WritesLocator := by
  refine ⟨encodeThenDecode .bm256, fun s => ?_⟩
  rw [exec_bm256]
  obtain ⟨hbad, heff⟩ | ⟨hN, heff⟩ := bm256Effect_cases s <;> rw [heff]
  · exact ⟨fun _ => rfl, fun hgood => absurd hbad hgood⟩
  · refine ⟨fun hbad => absurd hbad (Nat.not_lt.2 hN), fun _ => ?_⟩
    obtain ⟨mem, hstate, hrest⟩ := s.storeLocator_complete (length_bm gf256 (s.bufPrefix .s s.synCount) s.synCount).1
    exact ⟨mem, congrArg Host.Outcome.next hstate, hrest⟩

end Sys2Proof.Machine
end

section
/-! SUPPORT. Polynomials at the powers of `alpha`, over a field whose tables satisfy R164's laws: one with few nonzero
coefficients has few consecutive zeros, and one of low degree has few zeros at all. -/

namespace Sys2Proof.Machine

/-! Sums of sums. -/

/-- A sum with its first term split off. -/
theorem xorSum_succ' (n : Nat) (f : Nat → Byte) : xorSum (n + 1) f = (xorSum n fun i => f (i + 1)) ^^^ f 0 := by
  induction n with
  | zero => rfl
  | succ n ih =>
    rw [xorSum_succ, ih, xorSum_succ]
    ac_rfl

theorem xorSum_comm (m n : Nat) (f : Nat → Nat → Byte) :
    (xorSum m fun i => xorSum n (f i)) = xorSum n fun j => xorSum m fun i => f i j := by
  induction m with
  | zero => exact (xorSum_eq_zero fun _ _ => rfl).symm
  | succ m ih =>
    simp only [xorSum_succ]
    rw [ih, xorSum_xor]

/-- Terms that are 0 from index `m` on do not count. -/
theorem xorSum_eq_of_le {m n : Nat} (hmn : m ≤ n) {f : Nat → Byte} (hf : ∀ i, m ≤ i → f i = 0) :
    xorSum n f = xorSum m f := by
  obtain ⟨k, rfl⟩ := Nat.exists_eq_add_of_le hmn
  rw [xorSum_add, xorSum_eq_zero fun i _ => hf _ (Nat.le_add_right m i)]
  exact BitVec.xor_zero

/-! A polynomial at the powers of `alpha`. -/

/-- The value at `alpha^k` of the polynomial with coefficients `c 0, …, c (n - 1)`. -/
def Gf.valueAt (gf : Gf) (n : Nat) (c : Nat → Byte) (k : Nat) : Byte :=
  xorSum n fun j => gf.mul (c j) (gf.pow (j * k))

/-- The number of nonzero coefficients among `c 0, …, c (n - 1)`. -/
def weight (n : Nat) (c : Nat → Byte) : Nat := Nat.count (fun j => c j ≠ 0) n

theorem weight_succ (n : Nat) (c : Nat → Byte) : weight (n + 1) c = weight n c + if c n = 0 then 0 else 1 := by
  rw [weight, Nat.count_succ, ite_not, weight]

theorem weight_mono {n : Nat} {c d : Nat → Byte} (h : ∀ j, j < n → c j = 0 → d j = 0) : weight n d ≤ weight n c :=
  Nat.count_mono_left fun j hj hd hc => hd (h j hj hc)

theorem Gf.valueAt_eq_zero (gf : Gf) {n : Nat} {c : Nat → Byte} (hc : ∀ j, j < n → c j = 0) (k : Nat) :
    gf.valueAt n c k = 0 :=
  xorSum_eq_zero fun j hj => by rw [hc j hj, gf.zero_mul]

theorem Gf.valueAt_eq_of_le (gf : Gf) {m n : Nat} (hmn : m ≤ n) {c : Nat → Byte} (hc : ∀ i, m ≤ i → c i = 0)
    (k : Nat) : gf.valueAt n c k = gf.valueAt m c k :=
  xorSum_eq_of_le hmn fun i hi => by rw [hc i hi, gf.zero_mul]

theorem Gf.valueAt_succ (gf : Gf) (n : Nat) (c : Nat → Byte) (k : Nat) :
    gf.valueAt (n + 1) c k = gf.valueAt n c k ^^^ gf.mul (c n) (gf.pow (n * k)) := xorSum_succ n _

theorem Gf.valueAt_succ_of_eq_zero (gf : Gf) {n : Nat} {c : Nat → Byte} (hc : c n = 0) (k : Nat) :
    gf.valueAt (n + 1) c k = gf.valueAt n c k := by
  rw [gf.valueAt_succ, hc, gf.zero_mul]
  exact BitVec.xor_zero

/-- Powers of `alpha` whose exponents differ by a multiple of the order are equal. -/
theorem Gf.pow_add_order_mul (gf : Gf) (k m : Nat) : gf.pow (k + gf.order * m) = gf.pow k := by
  rw [Gf.pow, Nat.add_mul_mod_self_left, Gf.pow]

/-- `alpha^(order - j)` is the inverse of `alpha^j`. -/
theorem Gf.pow_mul_order_sub_add (gf : Gf) {j : Nat} (hj : j ≤ gf.order) (i k : Nat) :
    gf.pow (i * (gf.order - j) + (k + i * j)) = gf.pow k := by
  have hexp : i * (gf.order - j) + (k + i * j) = k + gf.order * i := by
    zify [hj]
    ring
  rw [hexp, gf.pow_add_order_mul]

/-- Both sides are the inverse of `alpha^(i * j)`. -/
theorem Gf.pow_mul_order_sub (gf : Gf) {i j : Nat} (hi : i ≤ gf.order) (hj : j ≤ gf.order) :
    gf.pow (i * (gf.order - j)) = gf.pow (j * (gf.order - i)) := by
  have hexp : i * (gf.order - j) + gf.order * j = j * (gf.order - i) + gf.order * i := by
    zify [hi, hj]
    ring
  rw [← gf.pow_add_order_mul _ j, hexp, gf.pow_add_order_mul]

section
variable {gf : Gf} (h : gf.LogInvertsExp)
include h

theorem Gf.LogInvertsExp.pow_inj {i j : Nat} (hi : i < gf.order) (hj : j < gf.order) (hij : gf.pow i = gf.pow j) :
    i = j := by
  have hlog := h.log_pow i
  rwa [hij, h.log_pow, Nat.mod_eq_of_lt hi, Nat.mod_eq_of_lt hj, eq_comm] at hlog

theorem Gf.LogInvertsExp.mul_ne_zero {a b : Byte} (ha : a ≠ 0) (hb : b ≠ 0) : gf.mul a b ≠ 0 := fun hab =>
  (h.eq_zero_or_eq_zero_of_mul_eq_zero hab).elim ha hb

variable {product : Byte → Byte → Byte} (hp : gf.ExpListsPowers product)
include hp

theorem Gf.LogInvertsExp.valueAt_le (n : Nat) (c : Nat → Byte) (k : Nat) : (gf.valueAt n c k).toNat ≤ gf.order :=
  hp.xorSum_le n fun _ => h.mul_le

theorem Gf.LogInvertsExp.xorSum_mul {c : Byte} (hc : c.toNat ≤ gf.order) (n : Nat) {f : Nat → Byte}
    (hf : ∀ i, (f i).toNat ≤ gf.order) : gf.mul (xorSum n f) c = xorSum n fun i => gf.mul (f i) c := by
  rw [gf.mul_comm, h.mul_xorSum hp hc n hf]
  exact xorSum_congr fun i _ => gf.mul_comm _ _

/-- Multiplying every coefficient `c j` by `alpha^j + alpha^i` gives a polynomial whose values are sums of two
neighbouring values of the first, and whose coefficient `i` is 0. -/
theorem Gf.LogInvertsExp.valueAt_eliminate {c : Nat → Byte} (hc : ∀ j, (c j).toNat ≤ gf.order) (n i k : Nat) :
    gf.valueAt n (fun j => gf.mul (c j) (gf.pow j ^^^ gf.pow i)) k =
      gf.valueAt n c (k + 1) ^^^ gf.mul (gf.pow i) (gf.valueAt n c k) := by
  rw [Gf.valueAt, Gf.valueAt, Gf.valueAt, h.mul_xorSum hp (h.pow_le i) n fun _ => h.mul_le, ← xorSum_xor]
  refine xorSum_congr fun j _ => ?_
  have hj := h.pow_le (j * k)
  rw [h.mul_xor hp (hc j) (h.pow_le j) (h.pow_le i), h.xor_mul hp h.mul_le h.mul_le hj,
    h.mul_assoc (hc j) (h.pow_le j) hj, h.pow_mul_pow, gf.mul_comm (c j) (gf.pow i),
    h.mul_assoc (h.pow_le i) (hc j) hj, Nat.mul_succ, Nat.add_comm j]

/-- The BCH bound: a polynomial with at most `w` nonzero coefficients that vanishes at `w` consecutive powers of
`alpha` is 0. -/
theorem Gf.LogInvertsExp.eq_zero_of_consecutive_zeros {n : Nat} (hn : n ≤ gf.order) {c : Nat → Byte}
    (hc : ∀ j, (c j).toNat ≤ gf.order) {w a : Nat} (hw : weight n c ≤ w)
    (hzero : ∀ k, k < w → gf.valueAt n c (a + k) = 0) : ∀ j, j < n → c j = 0 := by
  induction n generalizing c w with
  | zero => exact fun j hj => absurd hj j.not_lt_zero
  | succ n ih =>
    rw [weight_succ] at hw
    by_cases hcn : c n = 0
    · have hlow := ih (by omega) hc (by simpa [hcn] using hw) fun k hk => by
        rw [← hzero k hk, gf.valueAt_succ_of_eq_zero hcn]
      exact Nat.forall_lt_succ_right.2 ⟨hlow, hcn⟩
    · rw [if_neg hcn] at hw
      obtain ⟨w, rfl⟩ := Nat.exists_eq_add_of_le' (show 1 ≤ w by omega)
      -- eliminating coefficient `n` leaves a shorter polynomial with one nonzero coefficient and one zero less
      have hrest : ∀ j, j < n → gf.mul (c j) (gf.pow j ^^^ gf.pow n) = 0 := by
        refine ih (by omega) (fun j => h.mul_le) (w := w) ?_ fun k hk => ?_
        · refine (weight_mono fun j _ hj => ?_).trans (Nat.le_of_succ_le_succ hw)
          rw [hj, gf.zero_mul]
        · have hself : gf.mul (c n) (gf.pow n ^^^ gf.pow n) = 0 :=
            (congrArg (gf.mul (c n)) BitVec.xor_self).trans (gf.mul_zero _)
          rw [← gf.valueAt_succ_of_eq_zero hself, h.valueAt_eliminate hp hc, hzero k (by omega), Nat.add_assoc,
            hzero (k + 1) (by omega), gf.mul_zero]
          exact BitVec.xor_self
      have hlow : ∀ j, j < n → c j = 0 := fun j hj =>
        (h.eq_zero_or_eq_zero_of_mul_eq_zero (hrest j hj)).resolve_right fun hxor =>
          hj.ne (h.pow_inj (by omega) (by omega) (BitVec.xor_eq_zero_iff.1 hxor))
      have htop := hzero 0 w.succ_pos
      rw [gf.valueAt_succ, gf.valueAt_eq_zero hlow] at htop
      exact absurd (BitVec.zero_xor.symm.trans htop) (h.mul_ne_zero hcn (h.pow_ne_zero _))

/-- Only 0 is its own product with an element other than 1. -/
theorem Gf.LogInvertsExp.eq_zero_of_mul_eq_self {a b : Byte} (ha : a.toNat ≤ gf.order) (hb : b.toNat ≤ gf.order)
    (hne : a ≠ 1) (hmul : gf.mul a b = b) : b = 0 := by
  have hzero : gf.mul (a ^^^ 1) b = 0 := by
    rw [h.xor_mul hp ha (b := 1) h.order_pos hb, hmul, h.one_mul hb]
    exact BitVec.xor_self
  exact (h.eq_zero_or_eq_zero_of_mul_eq_zero hzero).resolve_left fun hxor => hne (BitVec.xor_eq_zero_iff.1 hxor)

/-- The powers `(alpha^t)^j` over a whole period sum to 0, since a factor of `alpha^t` permutes them. -/
theorem Gf.LogInvertsExp.xorSum_pow_mul {t : Nat} (ht : gf.pow t ≠ 1) :
    (xorSum gf.order fun j => gf.pow (j * t)) = 0 := by
  refine h.eq_zero_of_mul_eq_self hp (h.pow_le t) (hp.xorSum_le _ fun j => h.pow_le _) ht ?_
  have hlast : gf.pow (gf.order * t) = gf.pow (0 * t) := by
    rw [Nat.zero_mul, ← gf.pow_add_order_mul 0 t, Nat.zero_add]
  have hcycle := (xorSum_succ' gf.order fun j => gf.pow (j * t)).symm.trans (xorSum_succ gf.order _)
  rw [hlast, BitVec.xor_left_inj] at hcycle
  rw [h.mul_xorSum hp (h.pow_le t) _ fun j => h.pow_le _, ← hcycle]
  exact xorSum_congr fun j _ => by rw [h.pow_mul_pow, Nat.succ_mul, Nat.add_comm]

/-- The values of a polynomial of degree below `n` at all powers of `alpha`, taken as coefficients in their turn, have
values 0 from exponent `n` on. -/
theorem Gf.LogInvertsExp.valueAt_values {n i : Nat} {c : Nat → Byte} (hc : ∀ j, (c j).toNat ≤ gf.order) (hn : n ≤ i)
    (hi : i < gf.order) : gf.valueAt gf.order (fun j => gf.valueAt n c (gf.order - j)) i = 0 := by
  have hexp : ∀ j, j < gf.order → ∀ m, m < n →
      gf.mul (gf.mul (c m) (gf.pow (m * (gf.order - j)))) (gf.pow (j * i)) =
        gf.mul (c m) (gf.pow (j * (i + (gf.order - m)))) := by
    intro j hj m hm
    rw [h.mul_assoc (hc m) (h.pow_le _) (h.pow_le _), gf.pow_mul_order_sub (by omega) hj.le, h.pow_mul_pow,
      ← Nat.mul_add, Nat.add_comm i]
  have hinner : ∀ m, m < n → (xorSum gf.order fun j => gf.pow (j * (i + (gf.order - m)))) = 0 := by
    refine fun m hm => h.xorSum_pow_mul hp fun hone => ?_
    have hmi := h.pow_mul_pow (i + (gf.order - m)) m
    rw [hone, h.one_mul (h.pow_le m), Nat.add_assoc, Nat.sub_add_cancel (by omega), ← Nat.mul_one gf.order,
      gf.pow_add_order_mul] at hmi
    exact absurd (h.pow_inj (by omega) hi hmi) (by omega)
  calc gf.valueAt gf.order (fun j => gf.valueAt n c (gf.order - j)) i
      = xorSum gf.order fun j => xorSum n fun m => gf.mul (c m) (gf.pow (j * (i + (gf.order - m)))) :=
        xorSum_congr fun j hj =>
          (h.xorSum_mul hp (h.pow_le _) n fun _ => h.mul_le).trans (xorSum_congr fun m hm => hexp j hj m hm)
    _ = xorSum n fun m => gf.mul (c m) (xorSum gf.order fun j => gf.pow (j * (i + (gf.order - m)))) := by
        rw [xorSum_comm]
        exact xorSum_congr fun m _ => (h.mul_xorSum hp (hc m) gf.order fun _ => h.pow_le _).symm
    _ = 0 := xorSum_eq_zero fun m hm => by rw [hinner m hm, gf.mul_zero]

/-- A polynomial of degree below `n` other than 0 has fewer than `n` roots among the powers of `alpha`: its values at
the others number more than `order - n`. -/
theorem Gf.LogInvertsExp.order_lt_weight_values_add {n : Nat} (hn : n ≤ gf.order) {c : Nat → Byte}
    (hc : ∀ j, (c j).toNat ≤ gf.order) {i : Nat} (hi : i < n) (hci : c i ≠ 0) :
    gf.order < weight gf.order (fun j => gf.valueAt n c (gf.order - j)) + n := by
  by_contra hle
  have hvalues := h.eq_zero_of_consecutive_zeros hp le_rfl (fun j => h.valueAt_le hp n c (gf.order - j))
    (w := gf.order - n) (a := n) (by omega) fun k hk => h.valueAt_values hp hc (by omega) (by omega)
  refine hci (h.eq_zero_of_consecutive_zeros hp hn hc (w := n) (a := 1) (Nat.count_le _) (fun k hk => ?_) i hi)
  have hk := hvalues (gf.order - (1 + k)) (by omega)
  rwa [Nat.sub_sub_self (by omega)] at hk

end

end Sys2Proof.Machine
end

section
/-! SUPPORT. Error location (43_berlekamp_massey.md R203, 44_format_bch.md R222): the locator of the syndromes of a word
with few errors vanishes exactly at the inverses of the errors' locations. For every field whose tables satisfy R164's
laws, so for both codes. -/

namespace Sys2Proof.Machine

/-- The supports of `c` and `v` are disjoint and leave an index free. -/
theorem weight_add_weight_lt {n m : Nat} (hnm : n ≤ m) {c v : Nat → Byte} (hcv : ∀ j, j < n → c j ≠ 0 → v j = 0)
    {i : Nat} (hi : i < n) (hci : c i = 0) (hvi : v i = 0) : weight n c + weight m v < m := by
  have hsub : (Finset.range n).filter (c · ≠ 0) ⊂ (Finset.range m).filter (v · = 0) := by
    refine (Finset.ssubset_iff_of_subset fun j hj => ?_).2 ⟨i, ?_, by simp [hci]⟩
    · obtain ⟨hjn, hcj⟩ := by simpa using hj
      simpa using ⟨hjn.trans_le hnm, hcv j hjn hcj⟩
    · simpa using ⟨hi.trans_le hnm, hvi⟩
  have hlt := Finset.card_lt_card hsub
  have hall : ((Finset.range m).filter (v · = 0)).card + weight m v = m := by
    rw [weight, Nat.count_eq_card_filter_range]
    exact (Finset.card_filter_add_card_filter_not (v · = 0)).trans (Finset.card_range m)
  rw [weight, Nat.count_eq_card_filter_range]
  omega

/-- The value of a polynomial at the inverse of `alpha^j`, where a locator tells whether there is an error at `j`. -/
def Gf.valueAtInverse (gf : Gf) (p : Poly) (j : Nat) : Byte := gf.valueAt 64 p.coeff (gf.order - j)

theorem IsRegister.valueAtInverse_eq {gf : Gf} {syn p : Poly} {L n m : Nat} (hp : IsRegister gf syn p L n) (hL : L < m)
    (h64 : m ≤ 64) (j : Nat) : gf.valueAtInverse p j = gf.valueAt m p.coeff (gf.order - j) :=
  gf.valueAt_eq_of_le h64 (fun i hi => hp.degree i (hL.trans_le hi)) _

/-- `s[0..N)` are syndromes of the error word with coefficients `c 0, …, c (n - 1)`: its values from `alpha^b` on. -/
structure IsSyndromes (gf : Gf) (syn : Poly) (N b n : Nat) (c : Nat → Byte) : Prop where
  length_le : n ≤ gf.order
  element : ∀ j, (c j).toNat ≤ gf.order
  value : ∀ k, k < N → syn.coeff k = gf.valueAt n c (k + b)

section
variable {gf : Gf} (h : gf.LogInvertsExp) {product : Byte → Byte → Byte} (hp : gf.ExpListsPowers product)
variable {syn : Poly} {N b n : Nat} {c : Nat → Byte} (hsyn : IsSyndromes gf syn N b n c)
include h hp hsyn

/-- The recurrence of a register, on the syndromes of an error word, sums over the errors: each counts with the value of
the register's polynomial at the inverse of the error's location. -/
theorem IsSyndromes.conv_eq_valueAt {p : Poly} {L M k : Nat} (hreg : IsRegister gf syn p L M) (hL : L ≤ k) (hk : k < N)
    (h64 : k < 64) :
    gf.conv p syn k = gf.valueAt n (fun j => gf.mul (c j) (gf.valueAtInverse p j)) (k + b) := by
  have hexp : ∀ j, j < n → ∀ i, i < k + 1 → gf.mul (p.coeff i) (gf.mul (c j) (gf.pow (j * (k - i + b)))) =
      gf.mul (gf.mul (c j) (gf.mul (p.coeff i) (gf.pow (i * (gf.order - j))))) (gf.pow (j * (k + b))) := by
    intro j hj i hi
    have hsplit : j * (k + b) = j * (k - i + b) + i * j := by
      rw [Nat.mul_comm i, ← Nat.mul_add, Nat.add_right_comm, Nat.sub_add_cancel (Nat.le_of_lt_succ hi)]
    have hc := hsyn.element j
    have hpi := hreg.element i
    rw [← h.mul_assoc hpi hc (h.pow_le _), gf.mul_comm (p.coeff i), h.mul_assoc hc hpi (h.pow_le _),
      h.mul_assoc hc h.mul_le (h.pow_le _), h.mul_assoc hpi (h.pow_le _) (h.pow_le _), h.pow_mul_pow, hsplit,
      gf.pow_mul_order_sub_add (hj.le.trans hsyn.length_le)]
  calc gf.conv p syn k
      = xorSum (k + 1) fun i => xorSum n fun j => gf.mul (p.coeff i) (gf.mul (c j) (gf.pow (j * (k - i + b)))) :=
        xorSum_congr fun i _ => by
          rw [hsyn.value _ (by omega)]
          exact h.mul_xorSum hp (hreg.element i) n fun _ => h.mul_le
    _ = xorSum n fun j => xorSum (k + 1) fun i =>
          gf.mul (gf.mul (c j) (gf.mul (p.coeff i) (gf.pow (i * (gf.order - j))))) (gf.pow (j * (k + b))) := by
        rw [xorSum_comm]
        exact xorSum_congr fun j hj => xorSum_congr fun i hi => hexp j hj i hi
    _ = gf.valueAt n (fun j => gf.mul (c j) (gf.valueAtInverse p j)) (k + b) :=
        xorSum_congr fun j _ => by
          beta_reduce
          rw [hreg.valueAtInverse_eq (Nat.lt_succ_of_le hL) h64, Gf.valueAt,
            h.mul_xorSum hp (hsyn.element j) _ fun _ => h.mul_le, h.xorSum_mul hp (h.pow_le _) _ fun _ => h.mul_le]

/-- A register that generates enough syndromes vanishes at the inverse of every error's location. -/
theorem IsSyndromes.mul_valueAtInverse_eq_zero {p : Poly} {L M : Nat} (hreg : IsRegister gf syn p L M) (hM : M ≤ N)
    (h64 : M ≤ 64) (hroom : weight n c + L ≤ M) {j : Nat} (hj : j < n) :
    gf.mul (c j) (gf.valueAtInverse p j) = 0 := by
  refine h.eq_zero_of_consecutive_zeros hp hsyn.length_le (fun j => h.mul_le) (w := weight n c) (a := L + b)
    (weight_mono fun j _ hj => ?_) (fun k hk => ?_) j hj
  · rw [hj, gf.zero_mul]
  · rw [Nat.add_right_comm, ← hsyn.conv_eq_valueAt h hp hreg (by omega) (by omega) (by omega)]
    exact hreg.generates (L + k) (by omega) (by omega)

/-- Such a register generates all the syndromes. -/
theorem IsSyndromes.conv_eq_zero {p : Poly} {L M k : Nat} (hreg : IsRegister gf syn p L M) (hM : M ≤ N)
    (hroom : weight n c + L ≤ M) (hL : L ≤ k) (hk : k < N) (h64 : N ≤ 64) : gf.conv p syn k = 0 := by
  rw [hsyn.conv_eq_valueAt h hp hreg hL hk (by omega)]
  exact gf.valueAt_eq_zero (fun j hj => hsyn.mul_valueAtInverse_eq_zero h hp hreg hM (by omega) hroom hj) _

theorem IsSyndromes.coeff_le {k : Nat} (hk : k < N) : (syn.coeff k).toNat ≤ gf.order :=
  hsyn.value k hk ▸ h.valueAt_le hp n c _

theorem IsSyndromes.isRegister_bm {M : Nat} (hN : N ≤ 64) (hM : M ≤ N) :
    IsRegister gf syn (bm gf syn M).C (bm gf syn M).L M :=
  (bmInv_bm h hp (hM.trans hN) fun _ hk => hsyn.coeff_le h hp (hk.trans_le hM)).current

/-- R203: the locator is no longer than the number of errors. -/
theorem IsSyndromes.bm_length_le (hN : N ≤ 64) {M : Nat} (hM : M ≤ N) : (bm gf syn M).L ≤ weight n c := by
  induction M with
  | zero => exact Nat.zero_le _
  | succ M ih =>
    have ih := ih (by omega)
    rw [bm_succ]
    obtain ⟨-, hstep⟩ | ⟨hd, hrank, hstep⟩ | ⟨-, -, hstep⟩ := bmStep_cases gf syn (bm gf syn M) M <;> rw [hstep]
    · exact ih
    · -- a longer locator would have generated the syndrome that it failed on
      refine not_lt.1 fun (hlong : weight n c < M + 1 - (bm gf syn M).L) => ?_
      have hreg := hsyn.isRegister_bm h hp hN (Nat.le_of_succ_le hM)
      rw [hreg.bmDiscrepancy_eq_conv h (bm_coeff_zero_length_distance gf syn M).1 (by omega) (hsyn.coeff_le h hp hM)]
        at hd
      exact hd (hsyn.conv_eq_zero h hp hreg (by omega) (by omega) (by omega) hM hN)
    · exact ih

/-- The locator of at most `N / 2` errors vanishes at the inverse of `alpha^j` exactly when there is an error at `j`. -/
theorem IsSyndromes.valueAtInverse_bm_eq_zero_iff (hN : N ≤ 64) (hweight : 2 * weight n c ≤ N) {j : Nat} (hj : j < n) :
    gf.valueAtInverse (bm gf syn N).C j = 0 ↔ c j ≠ 0 := by
  have hreg := hsyn.isRegister_bm h hp hN le_rfl
  have hL := hsyn.bm_length_le h hp hN le_rfl
  have hroot : ∀ i, i < n → c i ≠ 0 → gf.valueAtInverse (bm gf syn N).C i = 0 := fun i hi hci =>
    (h.eq_zero_or_eq_zero_of_mul_eq_zero
      (hsyn.mul_valueAtInverse_eq_zero h hp hreg le_rfl hN (by omega) hi)).resolve_left hci
  refine ⟨fun hj0 hcj => ?_, hroot j hj⟩
  -- the errors and `j` would be more roots than the degree of the locator allows
  have hfew := weight_add_weight_lt hsyn.length_le hroot hj hcj hj0
  have hmany := h.order_lt_weight_values_add hp (n := (bm gf syn N).L + 1) (by omega) hreg.element (i := 0)
    (Nat.succ_pos _) (by rw [(bm_coeff_zero_length_distance gf syn N).1]; decide)
  rw [← funext (hreg.valueAtInverse_eq (Nat.lt_succ_self _) (by omega))] at hmany
  omega

end

end Sys2Proof.Machine
end

section
/-! SUPPORT. The correction of format words (44_format_bch.md R222, R224) and what FMT_DEC leaves (R221). -/

namespace Sys2Proof.Machine

/-- R166: evaluation at a power of `alpha`, for coefficients that are elements of the field. -/
theorem Gf.LogInvertsExp.polyEval_pow {gf : Gf} (h : gf.LogInvertsExp) {P : Poly}
    (hP : ∀ i, (P.coeff i).toNat ≤ gf.order) (k : Nat) : polyEval gf P (gf.pow k) = gf.valueAt 64 P.coeff k := by
  rw [polyEval, if_neg (h.pow_ne_zero k), Gf.valueAt, xorSum]
  refine List.foldl_ext _ _ _ fun acc i _ => ?_
  split
  · next h0 =>
    rw [h0, gf.zero_mul]
    exact BitVec.xor_zero.symm
  · next h0 =>
    have hlog : (gf.log (gf.pow k) * i) % gf.order = (i * k) % gf.order := by
      rw [Nat.mul_mod, h.log_pow, ← Nat.mul_mod, Nat.mul_comm]
    rw [h.mul_pow (hP i) h0]
    exact congrArg (acc ^^^ gf.exp ·) (by rw [Nat.add_mod, hlog, ← Nat.add_mod])

/-- The bits of a word as coefficients. -/
def bitCoeff (u : BitVec 15) (j : Nat) : Byte := if u.getLsbD j then 1 else 0

theorem bitCoeff_le (u : BitVec 15) (j : Nat) : (bitCoeff u j).toNat ≤ gf16.order := by
  unfold bitCoeff
  split <;> decide

theorem bitCoeff_ne_zero_iff (u : BitVec 15) (j : Nat) : bitCoeff u j ≠ 0 ↔ u.getLsbD j = true := by
  unfold bitCoeff
  split <;> simp [*]

theorem weight_bitCoeff (u : BitVec 15) : weight 15 (bitCoeff u) = bitCount u := by
  simp only [weight, bitCoeff_ne_zero_iff]
  simp [Nat.count, bitCount]

theorem fmtSyndrome_eq_valueAt (u : BitVec 15) (i : Nat) : fmtSyndrome u i = gf16.valueAt 15 (bitCoeff u) (i + 1) := by
  rw [fmtSyndrome, Gf.valueAt, xorSum]
  refine List.foldl_ext _ _ _ fun acc j _ => ?_
  unfold bitCoeff
  split
  · rw [gf16_logInvertsExp.one_mul (gf16_logInvertsExp.pow_le _), Nat.mul_comm]
    rfl
  · rw [gf16.zero_mul]
    exact BitVec.xor_zero.symm

/-- R181, R222: the six syndromes of a word are its values from `alpha` on. -/
theorem isSyndromes_fmtSyndromes (e : BitVec 15) : IsSyndromes gf16 (fmtSyndromes e) 6 1 15 (bitCoeff e) where
  length_le := le_rfl
  element := bitCoeff_le e
  value k hk := by
    rw [fmtSyndromes, Poly.coeff_tabulate, if_pos (by omega), if_pos hk, fmtSyndrome_eq_valueAt]

/-- A word into which single bits `i < n` are flipped where `q i` holds has these bits, as in R222's root search. -/
theorem getLsbD_foldl_flip (q : Nat → Prop) [DecidablePred q] (n : Nat) {j : Nat} (hj : j < 15) :
    ((List.range n).foldl (fun e i => if q i then e ^^^ (1#15 <<< i) else e) 0).getLsbD j =
      decide (j < n ∧ q j) := by
  induction n with
  | zero => simp
  | succ n ih =>
    have hbit : (1#15 <<< n).getLsbD j = (decide (n < 15) && decide (n = j)) := BitVec.getLsbD_twoPow n j
    rw [List.range_succ, List.foldl_append, List.foldl_cons, List.foldl_nil, apply_ite (BitVec.getLsbD · j),
      BitVec.getLsbD_xor, ih, hbit]
    obtain rfl | hne := eq_or_ne n j
    · by_cases hq : q n <;> simp [hq, hj]
    · have hlt : j < n + 1 ↔ j < n := by omega
      simp [hne, hlt]

/-- The root search's points are the inverses of the locations: EXP16 repeats its first entry at the end (R163). -/
theorem exp16_sub : ∀ i < 15, exp16 (15 - i) = gf16.pow (15 - i) := by decide

/-- The locator of at most three errors flags exactly these (R222). -/
theorem fmtErrorBits_bm {e : BitVec 15} (he : bitCount e ≤ 3) : fmtErrorBits (bm gf16 (fmtSyndromes e) 6).C = e := by
  have h := gf16_logInvertsExp
  have hp := gf16_expListsPowers
  have hsyn := isSyndromes_fmtSyndromes e
  have hweight : 2 * weight 15 (bitCoeff e) ≤ 6 := by rw [weight_bitCoeff]; omega
  refine BitVec.eq_of_getLsbD_eq fun j hj => ?_
  have hroot := (hsyn.valueAtInverse_bm_eq_zero_iff h hp (by decide) hweight hj).trans (bitCoeff_ne_zero_iff e j)
  rw [fmtErrorBits, getLsbD_foldl_flip _ 15 hj, exp16_sub j hj,
    h.polyEval_pow (hsyn.isRegister_bm h hp (by decide) le_rfl).element]
  exact (decide_eq_decide.2 ((and_iff_right hj).trans hroot)).trans (Bool.decide_coe _)

/-- The syndromes of a damaged codeword are those of the damage. -/
theorem fmtSyndromes_bchCodeword_xor (d : BitVec 5) (e : BitVec 15) :
    fmtSyndromes (bchCodeword d ^^^ e) = fmtSyndromes e := by
  refine congrArg Poly.tabulate (funext fun i => ?_)
  split
  · next hi =>
    rw [fmtSyndrome_xor, fmtSyndrome_bchCodeword d i hi]
    exact BitVec.zero_xor
  · rfl

/-- A word with at most three set bits whose syndromes are all 0 is 0, by the BCH bound. -/
theorem eq_zero_of_bitCount_le {e : BitVec 15} (he : bitCount e ≤ 3) (hzero : anyNonzero (fmtSyndromes e) = false) :
    e = 0 := by
  have hcoeff := gf16_logInvertsExp.eq_zero_of_consecutive_zeros gf16_expListsPowers (n := 15) le_rfl (bitCoeff_le e)
    (w := 6) (a := 1) (by rw [weight_bitCoeff]; omega) fun k hk => by
      rw [Nat.add_comm, ← fmtSyndrome_eq_valueAt]
      exact (anyNonzero_fmtSyndromes_eq_false_iff e).1 hzero k hk
  refine BitVec.eq_of_getLsbD_eq fun j hj => ?_
  have hbit : ¬ e.getLsbD j = true := fun hbit => (bitCoeff_ne_zero_iff e j).2 hbit (hcoeff j hj)
  exact (Bool.eq_false_of_not_eq_true hbit).trans BitVec.getLsbD_zero.symm

/-- Settles O28: the syndromes are those of the error, and its locator flags its bits. -/
theorem formatCorrectsThreeErrors : Obligations.FormatCorrectsThreeErrors := by
  intro d e he
  have hclean : anyNonzero (fmtSyndromes (bchCodeword d)) = false :=
    (anyNonzero_fmtSyndromes_eq_false_iff _).2 (fmtSyndrome_bchCodeword d)
  have hundo : bchCodeword d ^^^ e ^^^ e = bchCodeword d := by rw [BitVec.xor_assoc, BitVec.xor_self, BitVec.xor_zero]
  rw [correctFormat, fmtSyndromes_bchCodeword_xor, fmtErrorBits_bm he, hundo]
  split
  · next hzero =>
    rw [eq_zero_of_bitCount_le he hzero]
    exact congrArg (·, true) BitVec.xor_zero
  · exact congrArg (fun nz => (bchCodeword d, !nz)) hclean

/-! The command (R221). -/

/-- R49: making S and SIGMA unspecified leaves every byte outside the two. -/
theorem State.sameBytesOutside_unspecifyIntermediates (s : State) :
    sameBytesOutside [.s, .sigma] s s.unspecifyIntermediates := by
  intro a ha
  have hout {b : Buf} (hb : b ∈ [Buf.s, Buf.sigma]) : b.holds a = false := by
    rw [← Bool.not_eq_true, Buf.holds_iff]
    exact ha b hb
  exact s.byteAt_unspecifyIntermediates (hout (by decide)) (hout (by decide))

/-- FMT_DEC writes the outcome of the two locations to FMT_OUT and reports its code; S, SIGMA, BM_L and NZ are
unspecified afterwards, and nothing else changes. -/
theorem exec_fmtDec_eq_decodeFormat (s : State) : ∃ t, exec .fmtDec s = .next t ∧ sameBytesOutside [.s, .sigma] s t ∧
    completedUpTo { s with fmtOut := (decodeFormat s.fmtA s.fmtB).2 } t (decodeFormat s.fmtA s.fmtB).1.code := by
  have hstatus := Status.complete_eq s.unspecifyIntermediates.status (decodeFormat s.fmtA s.fmtB).1
  exact ⟨_, exec_fmtDec s, s.sameBytesOutside_unspecifyIntermediates, _, _, _, _, _,
    congrArg (fun status => { s.unspecifyIntermediates with
      fmtOut := (decodeFormat s.fmtA s.fmtB).2, status := status, irqPend := true }) hstatus⟩

/-- Settles O27, by the three outcomes of the two locations. -/
theorem fmtDecTriesBothLocations : Obligations.FmtDecTriesBothLocations := by
  refine ⟨encodeThenDecode .fmtDec, fun s => ?_⟩
  obtain ⟨t, hexec, hbytes, hdone⟩ := exec_fmtDec_eq_decodeFormat s
  refine ⟨t, hexec, hbytes, ?_⟩
  obtain ⟨ha, hout⟩ | ⟨ha, hb, hout⟩ | ⟨ha, hb, hout⟩ := decodeFormat_cases s.fmtA s.fmtB <;> rw [hout] at hdone
  · exact ⟨fun _ => hdone, fun ha' => Bool.noConfusion (ha.symm.trans ha'),
      fun ha' => Bool.noConfusion (ha.symm.trans ha')⟩
  · exact ⟨fun ha' => Bool.noConfusion (ha.symm.trans ha'), fun _ _ => hdone,
      fun _ hb' => Bool.noConfusion (hb.symm.trans hb')⟩
  · exact ⟨fun ha' => Bool.noConfusion (ha.symm.trans ha'), fun _ hb' => Bool.noConfusion (hb.symm.trans hb'),
      fun _ _ => hdone⟩

theorem decodeFormat_of_correctFormat {a : BitVec 15} (b : BitVec 15) {w : BitVec 15}
    (ha : correctFormat (a ^^^ fmtMask) = (w, true)) : decodeFormat a b = (.success, FmtOut.ofWord w false) := by
  simp [decodeFormat, ha]

/-- The level and the mask are data bits 4:3 and 2:0 (R220). -/
theorem fields_bchCodeword : ∀ d : BitVec 5, (bchCodeword d).extractLsb' 13 2 = d.extractLsb' 3 2 ∧
    (bchCodeword d).extractLsb' 10 3 = d.extractLsb' 0 3 := by decide +kernel

/-- Settles O29: location A is corrected, so it decides the outcome. -/
theorem fmtDecRecoversDamagedWord : Obligations.FmtDecRecoversDamagedWord := by
  intro s d e he hraw
  have hunmask : s.fmtA ^^^ fmtMask = bchCodeword d ^^^ e := by
    rw [hraw, BitVec.xor_assoc]
    exact BitVec.xor_zero
  have hout := decodeFormat_of_correctFormat s.fmtB (hunmask ▸ formatCorrectsThreeErrors d e he)
  obtain ⟨t, hexec, -, nz, bmL, mem, gens, draws, rfl⟩ := exec_fmtDec_eq_decodeFormat s
  obtain ⟨hlevel, hmask⟩ := fields_bchCodeword d
  rw [hout] at hexec
  exact ⟨_, hexec, rfl, rfl, rfl, rfl, hlevel, hmask⟩

end Sys2Proof.Machine
end

section
/-! SUPPORT. What RS_DEC leaves (45_reed_solomon.md R241, R246): the corrector's block in BLK, and its report. -/

namespace Sys2Proof.Machine

/-- R246: `ok` says that the block the corrector leaves has no nonzero syndrome. -/
theorem correctBlock_snd (blk : List Byte) (bs dw : Nat) :
    (correctBlock blk bs dw).2 = !anyNonzero (blkSyndromes (correctBlock blk bs dw).1 bs (parityCount bs dw)) := by
  obtain ⟨hclean, h⟩ | ⟨-, fixed, -, h⟩ := correctBlock_cases blk bs dw <;> rw [h]
  rw [hclean]
  rfl

theorem correctBlock_of_clean {blk : List Byte} {bs dw : Nat}
    (hclean : anyNonzero (blkSyndromes blk bs (parityCount bs dw)) = false) :
    correctBlock blk bs dw = (blk, true) := if_pos hclean

/-- R302's condition for RS_DEC is R240's check, the one of SYND256. -/
theorem badParam_rsDec_iff (s : State) : badParam .rsDec s ↔ blockAdmitted s.bs s.dw = false :=
  badParam_synd256_iff s

/-- Bytes that stand in a buffer from its start on are its first bytes. -/
theorem State.bufPrefix_eq (s : State) (b : Buf) {bytes : List Byte}
    (h : ∀ i, i < bytes.length → s.buf b i = bytes.getD i 0) : s.bufPrefix b bytes.length = bytes :=
  List.ext_getElem (s.length_bufPrefix b _) fun i hi hi' => by
    rw [← List.getD_eq_getElem _ 0 hi, ← List.getD_eq_getElem _ 0 hi', s.getD_bufPrefix b hi', h i hi']

/-- What stands in BLK after the write back and R49's unspecified results, at every index. -/
theorem State.buf_blk_writeBuf_unspecifyIntermediates (s : State) (bytes : List Byte) (i : Nat) :
    (s.writeBuf .blk bytes).unspecifyIntermediates.buf .blk i =
      if i < bytes.length then bytes.getD i 0 else s.buf .blk i := by
  have hout {c : Buf} (hc : c.base + c.size ≤ Buf.blk.base) : c.holds (Buf.blk.base + i) = false := by
    rw [← Bool.not_eq_true, Buf.holds_iff]
    omega
  rw [State.buf, State.byteAt_unspecifyIntermediates _ (hout (by decide)) (hout (by decide)), State.byteAt_writeBuf,
    Nat.add_sub_cancel_left]
  exact if_congr (by omega) rfl rfl

/-- A completion over a write to a buffer and R49's unspecified results changes no register but BM_L and its report. -/
theorem State.completedUpTo_writeBuf_unspecifyIntermediates (s : State) (b : Buf) (bytes : List Byte) (c : ErrCode) :
    completedUpTo s ((s.writeBuf b bytes).unspecifyIntermediates.complete c) c.code := by
  refine ⟨Config.freeFlag s.draws, Config.freeLength s.draws, (s.writeBuf b bytes).unspecifyIntermediates.mem,
    (s.gens.set .s s.draws).set .sigma (s.draws + 1), s.draws + 1 + 1, ?_⟩
  rw [State.complete, Status.complete_eq]
  cases s
  rfl

/-- R241: RS_DEC on admitted operands. -/
theorem exec_rsDec_of_admitted {s : State} (hok : blockAdmitted s.bs s.dw = true) : ∃ t, exec .rsDec s = .next t ∧
    completedUpTo s t (if (correctBlock (s.bufPrefix .blk s.bs) s.bs s.dw).2 = true then 0 else 4) ∧
    (∀ i, t.buf .blk i =
      if i < s.bs then (correctBlock (s.bufPrefix .blk s.bs) s.bs s.dw).1.getD i 0 else s.buf .blk i) ∧
    sameBytesOutside [.s, .sigma, .blk] s t := by
  have heff := (rsDecEffect_cases s).resolve_left fun hbad => Bool.noConfusion (hok.symm.trans hbad.1)
  have hlen := length_correctBlock (s.length_bufPrefix .blk s.bs) s.dw
  rw [exec_rsDec, heff.2]
  generalize correctBlock (s.bufPrefix .blk s.bs) s.bs s.dw = r at hlen ⊢
  refine ⟨_, rfl, ?_, fun i => ?_, fun a ha => ?_⟩
  · have hdone := s.completedUpTo_writeBuf_unspecifyIntermediates .blk r.1 (if r.2 = true then .success else .dataEcc)
    rwa [apply_ite ErrCode.code] at hdone
  · rw [← hlen]
    exact s.buf_blk_writeBuf_unspecifyIntermediates r.1 i
  · have hblk := ha .blk (by decide)
    have hsize : s.bs < Buf.blk.size := s.rsBs.isLt
    refine ((s.writeBuf .blk r.1).sameBytesOutside_unspecifyIntermediates a fun b hb => ha b ?_).trans
      ((s.byteAt_writeBuf .blk r.1 a).trans (if_neg fun hin => hblk ⟨hin.1, by omega⟩))
    exact List.mem_append_left [.blk] hb

/-- Settles O30, by the two cases of the operand check. -/
theorem rsDecCorrectsBlockInPlace : Obligations.RsDecCorrectsBlockInPlace := by
  refine ⟨encodeThenDecode .rsDec, fun s => ?_⟩
  rw [badParam_rsDec_iff]
  obtain ⟨hbad, heff⟩ | ⟨hok, -⟩ := rsDecEffect_cases s
  · rw [exec_rsDec, heff]
    exact ⟨fun _ => rfl, fun hgood => absurd hbad hgood⟩
  · refine ⟨fun hbad => Bool.noConfusion (hok.symm.trans hbad), fun _ => ?_⟩
    obtain ⟨t, hexec, hdone, hblk, hbytes⟩ := exec_rsDec_of_admitted hok
    exact ⟨t, hexec, hdone, fun i hi => (hblk i).trans (if_pos hi),
      fun i hi _ => (hblk i).trans (if_neg (Nat.not_lt.2 hi)), hbytes⟩

/-- Settles O31: BLK holds the corrector's block, and its code is the corrector's `ok`. -/
theorem rsDecSuccessLeavesCodeword : Obligations.RsDecSuccessLeavesCodeword := by
  intro s t hgood hexec
  change (anyNonzero (blkSyndromes (s.bufPrefix .blk s.bs) s.bs (parityCount s.bs s.dw)) = false → _) ∧
    (_ ↔ anyNonzero (blkSyndromes (t.bufPrefix .blk s.bs) s.bs (parityCount s.bs s.dw)) = false)
  rw [badParam_rsDec_iff, Bool.not_eq_false] at hgood
  obtain ⟨t', hexec', hdone, hblk, -⟩ := exec_rsDec_of_admitted hgood
  obtain rfl : t = t' := Host.Outcome.next.inj (hexec.symm.trans hexec')
  have hcode : t.status.errCode = if (correctBlock (s.bufPrefix .blk s.bs) s.bs s.dw).2 = true then 0 else 4 := by
    obtain ⟨nz, bmL, mem, gens, draws, rfl⟩ := hdone
    rfl
  have hlen := length_correctBlock (s.length_bufPrefix .blk s.bs) s.dw
  refine ⟨fun hclean => ?_, ?_⟩
  · rw [correctBlock_of_clean (dw := s.dw) hclean] at hcode hblk
    refine ⟨hcode, fun i => (hblk i).trans ?_⟩
    split
    · next hi => exact s.getD_bufPrefix .blk hi
    · rfl
  · have hfinal : t.bufPrefix .blk s.bs = (correctBlock (s.bufPrefix .blk s.bs) s.bs s.dw).1 := by
      have hfirst := t.bufPrefix_eq .blk fun i hi => (hblk i).trans (if_pos (hlen ▸ hi))
      rwa [hlen] at hfirst
    have hok := correctBlock_snd (s.bufPrefix .blk s.bs) s.bs s.dw
    rw [← hfinal] at hok
    rw [hcode, hok]
    cases anyNonzero (blkSyndromes (t.bufPrefix .blk s.bs) s.bs (parityCount s.bs s.dw)) <;> decide

end Sys2Proof.Machine
end

section
/-! SUPPORT. The correction of a block with one changed byte (45_reed_solomon.md R242 to R247): the locator flags the
byte and Forney's quotient is the change. -/

namespace Sys2Proof.Machine

/-! Block syndromes (R183) as values of the block's polynomial (R91). -/

theorem blkSyndrome_eq_valueAt (blk : List Byte) (bs i : Nat) :
    blkSyndrome blk bs i = gf256.valueAt bs (blockCoeff blk bs) i := by
  rw [blkSyndrome, Gf.valueAt, xorSum]
  refine List.foldl_ext _ _ _ fun acc j _ => ?_
  split
  · next h0 =>
    rw [h0, gf256.zero_mul]
    exact BitVec.xor_zero.symm
  · next h0 =>
    rw [gf256_logInvertsExp.mul_pow (toNat_le_order256 _) h0, Nat.mul_comm i]
    rfl

theorem coeff_blkSyndromes (blk : List Byte) (bs : Nat) {npar k : Nat} (hnpar : npar ≤ 64) (hk : k < npar) :
    (blkSyndromes blk bs npar).coeff k = gf256.valueAt bs (blockCoeff blk bs) k := by
  rw [blkSyndromes, Poly.coeff_tabulate, if_pos (by omega), if_pos hk, blkSyndrome_eq_valueAt]

/-- A polynomial without a nonzero entry has no nonzero coefficient. -/
theorem coeff_eq_zero_of_anyNonzero {p : Poly} (h : anyNonzero p = false) (k : Nat) : p.coeff k = 0 := by
  obtain hk | hk := Nat.lt_or_ge k p.length
  · rw [Poly.coeff, List.getD_eq_getElem p 0 hk]
    simpa using List.any_eq_false.1 h _ (List.getElem_mem hk)
  · exact List.getD_eq_default p 0 hk

/-- The values of a sum of polynomials are the sums of their values. -/
theorem Gf.LogInvertsExp.valueAt_xor {gf : Gf} (h : gf.LogInvertsExp) {product : Byte → Byte → Byte}
    (hp : gf.ExpListsPowers product) {c d : Nat → Byte} (hc : ∀ j, (c j).toNat ≤ gf.order)
    (hd : ∀ j, (d j).toNat ≤ gf.order) (n k : Nat) :
    gf.valueAt n (fun j => c j ^^^ d j) k = gf.valueAt n c k ^^^ gf.valueAt n d k := by
  rw [Gf.valueAt, Gf.valueAt, Gf.valueAt, ← xorSum_xor]
  exact xorSum_congr fun j _ => h.xor_mul hp (hc j) (hd j) (h.pow_le _)

/-! One changed byte. -/

/-- The error word with value `e` at exponent `i`. -/
def singleError (i : Nat) (e : Byte) (j : Nat) : Byte := if j = i then e else 0

@[simp] theorem singleError_self (i : Nat) (e : Byte) : singleError i e i = e := if_pos rfl

theorem singleError_of_ne {i j : Nat} (h : j ≠ i) (e : Byte) : singleError i e j = 0 := if_neg h

theorem weight_singleError_le (n i : Nat) (e : Byte) : weight n (singleError i e) ≤ 1 := by
  rw [weight, Nat.count_eq_card_filter_range, Finset.card_le_one]
  have hi : ∀ j ∈ (Finset.range n).filter (singleError i e · ≠ 0), j = i := fun j hj => by
    by_contra hne
    exact (Finset.mem_filter.1 hj).2 (singleError_of_ne hne e)
  exact fun j hj k hk => (hi j hj).trans (hi k hk).symm

theorem Gf.valueAt_singleError (gf : Gf) {n i : Nat} (hi : i < n) (e : Byte) (k : Nat) :
    gf.valueAt n (singleError i e) k = gf.mul e (gf.pow (i * k)) := by
  rw [gf.valueAt_eq_of_le (m := i + 1) hi fun j hj => singleError_of_ne (by omega) e, gf.valueAt_succ,
    gf.valueAt_eq_zero fun j hj => singleError_of_ne (by omega) e, singleError_self]
  exact BitVec.zero_xor

theorem singleError_congr {i j i' j' : Nat} (h : j = i ↔ j' = i') (e : Byte) :
    singleError i e j = singleError i' e j' := if_congr h rfl rfl

theorem getD_set_xor {blk : List Byte} {p : Nat} (hp : p < blk.length) (e : Byte) (q : Nat) :
    (blk.set p (blk.getD p 0 ^^^ e)).getD q 0 = blk.getD q 0 ^^^ singleError p e q := by
  obtain rfl | hne := eq_or_ne p q
  · simp [hp]
  · simp [List.getElem?_set_ne hne, singleError_of_ne hne.symm]

/-- The changed byte `p` is an error at exponent `bs - 1 - p` (R91). -/
theorem blockCoeff_set {blk : List Byte} {p : Nat} (hp : p < blk.length) (e : Byte) {j : Nat} (hj : j < blk.length) :
    blockCoeff (blk.set p (blk.getD p 0 ^^^ e)) blk.length j =
      blockCoeff blk blk.length j ^^^ singleError (blk.length - 1 - p) e j := by
  rw [blockCoeff, getD_set_xor hp, singleError_congr (show _ ↔ j = blk.length - 1 - p by omega), blockCoeff]

/-- The syndromes of a codeword with one changed byte are those of the change. -/
theorem isSyndromes_blkSyndromes_set {blk : List Byte} {npar p : Nat} (hlen : blk.length ≤ 255) (hnpar : npar ≤ 64)
    (hp : p < blk.length) (hclean : anyNonzero (blkSyndromes blk blk.length npar) = false) (e : Byte) :
    IsSyndromes gf256 (blkSyndromes (blk.set p (blk.getD p 0 ^^^ e)) blk.length npar) npar 0 blk.length
      (singleError (blk.length - 1 - p) e) where
  length_le := hlen
  element j := toNat_le_order256 _
  value k hk := by
    have hsum : gf256.valueAt blk.length (blockCoeff (blk.set p (blk.getD p 0 ^^^ e)) blk.length) k =
        gf256.valueAt blk.length (fun j => blockCoeff blk blk.length j ^^^ singleError (blk.length - 1 - p) e j) k :=
      xorSum_congr fun j hj => by rw [blockCoeff_set hp e hj]
    rw [coeff_blkSyndromes _ _ hnpar hk, hsum, gf256_logInvertsExp.valueAt_xor gf256_expListsPowers
      (fun j => toNat_le_order256 _) (fun j => toNat_le_order256 _),
      ← coeff_blkSyndromes blk _ hnpar hk, coeff_eq_zero_of_anyNonzero hclean]
    exact BitVec.zero_xor

/-! Forney's quotient (R242 to R245) for a locator of length 1. -/

/-- A register of some length is one of every greater length. -/
theorem IsRegister.of_length_le {gf : Gf} {syn p : Poly} {L L' n : Nat} (hp : IsRegister gf syn p L n) (hL : L ≤ L') :
    IsRegister gf syn p L' n :=
  { hp with
    degree := fun i hi => hp.degree i (hL.trans_lt hi)
    generates := fun k hk => hp.generates k (hL.trans hk) }

/-- R245's quotient of a product by its factor. -/
theorem forneyMagnitude_mul {a e : Byte} (ha : a ≠ 0) (he : e ≠ 0) : forneyMagnitude a (gf256.mul a e) = e := by
  have h := gf256_logInvertsExp
  have hle := toNat_le_order256
  calc forneyMagnitude a (gf256.mul a e)
      = gf256.mul (gf256.mul a e) (gf256.pow (gf256.order - gf256.log a)) := by
        rw [h.mul_pow (hle _) (h.mul_ne_zero ha he), Nat.add_comm]
        rfl
    _ = gf256.mul e (gf256.mul a (gf256.pow (gf256.order - gf256.log a))) := by
        rw [gf256.mul_comm a e, h.mul_assoc (hle e) (hle a) (hle _)]
    _ = e := by rw [h.mul_inverse (hle a) ha, gf256.mul_comm, h.one_mul (hle e)]

theorem polyEval_pow_of_constant {P : Poly} (hP : ∀ i, 1 ≤ i → P.coeff i = 0) (k : Nat) :
    polyEval gf256 P (gf256.pow k) = P.coeff 0 := by
  have h := gf256_logInvertsExp
  rw [h.polyEval_pow (fun i => toNat_le_order256 _), gf256.valueAt_eq_of_le (m := 1) (by decide) hP, gf256.valueAt_succ,
    Nat.zero_mul, h.pow_zero, gf256.mul_comm, h.one_mul (toNat_le_order256 _)]
  exact BitVec.zero_xor

/-- R244's candidates are tried at the inverses of the locations: EXP256 repeats its first entry at the end (R163). -/
theorem exp256_sub (i : Nat) : exp256 (255 - i) = gf256.pow (255 - i) := by
  obtain hlast | hlt := Nat.eq_or_lt_of_le (Nat.sub_le 255 i)
  · rw [hlast]
    rfl
  · rw [Gf.pow, Nat.mod_eq_of_lt (show 255 - i < gf256.order from hlt)]
    rfl

/-- R243: the evaluator's coefficients, as sums of products. -/
theorem coeff_errorEvaluator_of_lt (syn sigma : Poly) {P k : Nat} (hk : k < P) (h64 : k < 64) :
    (errorEvaluator syn sigma P).coeff k =
      xorSum (k + 1) fun i => gf256.mul (sigma.coeff i) (syn.coeff (k + 1 - i)) := by
  rw [errorEvaluator, Poly.coeff_tabulate, if_pos h64, if_pos hk]
  refine List.foldl_ext _ _ _ fun acc i hi => ?_
  beta_reduce
  rw [Nat.sub_add_comm (Nat.le_of_lt_succ (List.mem_range.1 hi)), Gf.mul]
  split
  · exact BitVec.xor_zero.symm
  · rfl

section
variable {syn sigma : Poly} {npar : Nat} (hreg : IsRegister gf256 syn sigma 1 npar)
include hreg

theorem IsRegister.coeff_locatorDerivative (k : Nat) : (locatorDerivative sigma).coeff k = sigma.coeff (k + 1) := by
  obtain rfl | hk := Nat.eq_zero_or_pos k
  · rfl
  · rw [locatorDerivative, Poly.coeff_tabulate, hreg.degree (k + 1) (by omega), ite_self, ite_self]

/-- What the recurrence at `k + 1` leaves of the evaluator's sum is its last term. -/
theorem IsRegister.coeff_errorEvaluator (hnpar : 2 ≤ npar) (h64 : npar ≤ 64) (k : Nat) :
    (errorEvaluator syn sigma (npar - 1)).coeff k = gf256.mul (sigma.coeff (k + 1)) (syn.coeff 0) := by
  by_cases hk : k < npar - 1
  · have hrec := hreg.generates (k + 1) (by omega) (by omega)
    rw [Gf.conv, xorSum_succ, Nat.sub_self] at hrec
    rw [coeff_errorEvaluator_of_lt syn sigma hk (by omega)]
    exact BitVec.xor_eq_zero_iff.1 hrec
  · rw [errorEvaluator, Poly.coeff_tabulate, if_neg hk, ite_self, hreg.degree (k + 1) (by omega), gf256.zero_mul]

/-- A locator with constant term 1 and a root has degree 1. -/
theorem IsRegister.coeff_one_ne_zero (hone : sigma.coeff 0 = 1) {k : Nat}
    (hroot : polyEval gf256 sigma (gf256.pow k) = 0) : sigma.coeff 1 ≠ 0 := fun hzero => by
  have hconst : ∀ i, 1 ≤ i → sigma.coeff i = 0 := fun i hi => by
    obtain rfl | hlt := Nat.eq_or_lt_of_le hi
    · exact hzero
    · exact hreg.degree i hlt
  rw [polyEval_pow_of_constant hconst, hone] at hroot
  exact absurd hroot (by decide)

/-- R245: at a root, the quotient for a locator of length 1 is the first syndrome. -/
theorem IsRegister.forneyMagnitude_eq (hnpar : 2 ≤ npar) (h64 : npar ≤ 64) (hone : sigma.coeff 0 = 1) {k : Nat}
    (hroot : polyEval gf256 sigma (gf256.pow k) = 0) (hsyn : syn.coeff 0 ≠ 0) :
    forneyMagnitude (polyEval gf256 (locatorDerivative sigma) (gf256.pow k))
      (polyEval gf256 (errorEvaluator syn sigma (npar - 1)) (gf256.pow k)) = syn.coeff 0 := by
  have hderiv := hreg.coeff_locatorDerivative
  have hvalue := hreg.coeff_errorEvaluator hnpar h64
  rw [polyEval_pow_of_constant fun i hi => by rw [hderiv, hreg.degree _ (by omega)],
    polyEval_pow_of_constant fun i hi => by rw [hvalue, hreg.degree _ (by omega), gf256.zero_mul], hderiv, hvalue]
  exact forneyMagnitude_mul (hreg.coeff_one_ne_zero hone hroot) hsyn

end

/-! The corrector on one changed byte (R246, R247). -/

/-- The first syndrome of a single error is its value. -/
theorem IsSyndromes.coeff_zero_of_singleError {syn : Poly} {npar bs i : Nat} {e : Byte}
    (hsyn : IsSyndromes gf256 syn npar 0 bs (singleError i e)) (hnpar : 0 < npar) (hi : i < bs) :
    syn.coeff 0 = e := by
  have h := gf256_logInvertsExp
  rw [hsyn.value 0 hnpar, gf256.valueAt_singleError hi, Nat.mul_zero, h.pow_zero, gf256.mul_comm,
    h.one_mul (toNat_le_order256 e)]

/-- R244, R245: candidate `j` adds the error's value at exponent `j`. -/
theorem errorAt_of_singleError {syn : Poly} {npar bs i : Nat} {e : Byte}
    (hsyn : IsSyndromes gf256 syn npar 0 bs (singleError i e)) (hnpar : 2 ≤ npar) (h64 : npar ≤ 64) (hi : i < bs)
    {j : Nat} (hj : j < bs) :
    errorAt (bm gf256 syn npar).C (locatorDerivative (bm gf256 syn npar).C)
      (errorEvaluator syn (bm gf256 syn npar).C (npar - 1)) j = singleError i e j := by
  have h := gf256_logInvertsExp
  have hp := gf256_expListsPowers
  have hweight := weight_singleError_le bs i e
  have hreg := (hsyn.isRegister_bm h hp h64 le_rfl).of_length_le ((hsyn.bm_length_le h hp h64 le_rfl).trans hweight)
  have hroot := hsyn.valueAtInverse_bm_eq_zero_iff h hp h64 (by omega) hj
  rw [Gf.valueAtInverse, ← h.polyEval_pow hreg.element] at hroot
  have hfirst := hsyn.coeff_zero_of_singleError (by omega) hi
  rw [errorAt, exp256_sub]
  split
  · next hzero =>
    have hne := hroot.1 hzero
    obtain rfl : j = i := by_contra fun hji => hne (singleError_of_ne hji e)
    rw [singleError_self] at hne ⊢
    have hone := (bm_coeff_zero_length_distance gf256 syn npar).1
    rw [hreg.forneyMagnitude_eq hnpar h64 hone hzero (hfirst ▸ hne), hfirst]
  · next hzero => exact (not_not.1 (mt hroot.2 hzero)).symm

/-- R246: the attempted correction undoes the change. -/
theorem applyErrors_set {blk : List Byte} {p : Nat} (hp : p < blk.length) {e : Byte} {sigma deriv omega : Poly}
    (herr : ∀ j, j < blk.length → errorAt sigma deriv omega j = singleError (blk.length - 1 - p) e j) :
    applyErrors (blk.set p (blk.getD p 0 ^^^ e)) blk.length sigma deriv omega = blk := by
  refine List.ext_getElem (length_applyErrors _ _ _ _ _) fun q _ hq => ?_
  have hundo : blk.getD q 0 ^^^ singleError p e q ^^^ singleError p e q = blk.getD q 0 := by
    rw [BitVec.xor_assoc, BitVec.xor_self, BitVec.xor_zero]
  simp only [applyErrors, List.getElem_map, List.getElem_range]
  rw [herr _ (by omega), singleError_congr (show _ ↔ q = p by omega), getD_set_xor hp, hundo,
    List.getD_eq_getElem _ _ hq]

/-- R246: a block with a nonzero syndrome. -/
theorem correctBlock_of_applyErrors {blk fixed : List Byte} {bs dw : Nat} {sigma : Poly}
    (hsigma : (bm gf256 (blkSyndromes blk bs (parityCount bs dw)) (parityCount bs dw)).C = sigma)
    (hfixed : applyErrors blk bs sigma (locatorDerivative sigma)
      (errorEvaluator (blkSyndromes blk bs (parityCount bs dw)) sigma (parityCount bs dw - 1)) = fixed)
    (herr : anyNonzero (blkSyndromes blk bs (parityCount bs dw)) = true) :
    correctBlock blk bs dw = (fixed, !anyNonzero (blkSyndromes fixed bs (parityCount bs dw))) := by
  subst hsigma hfixed
  exact if_neg (by simp [herr])

/-- Settles O32: the syndromes are those of the change, its locator flags the byte, and the quotient is the change. -/
theorem singleByteErrorIsCorrected : Obligations.SingleByteErrorIsCorrected := by
  rintro blk bs dw p e - h255 hdw h64 rfl hp hclean
  have hsyn := isSyndromes_blkSyndromes_set h255 h64 hp hclean e
  cases hdamaged :
    anyNonzero (blkSyndromes (blk.set p (blk.getD p 0 ^^^ e)) blk.length (parityCount blk.length dw)) with
  | false =>
    -- no change at all: the first syndrome is the change
    have he : e = 0 := by
      rw [← hsyn.coeff_zero_of_singleError (by omega) (by omega)]
      exact coeff_eq_zero_of_anyNonzero hdamaged 0
    have hsame : blk.getD p 0 ^^^ e = blk[p] := by
      rw [he, List.getD_eq_getElem blk 0 hp]
      exact BitVec.xor_zero
    rw [correctBlock_of_clean hdamaged, hsame, List.set_getElem_self]
  | true =>
    have hfixed := applyErrors_set hp fun j hj => errorAt_of_singleError hsyn (by omega) h64 (by omega) hj
    exact (correctBlock_of_applyErrors rfl hfixed hdamaged).trans (congrArg (fun nz => (blk, !nz)) hclean)

end Sys2Proof.Machine
end

section
/-! SUPPORT. DEINT's statements (46_deinterleave.md R261 to R264): the stream of data words block by block, where each of
them stands, and what the command leaves around DATA. -/

namespace Sys2Proof.Machine

theorem not_badParam_deint_iff (s : State) :
    ¬ badParam .deint s ↔ deintAdmitted s.totalWords s.bs s.dw s.ns = true := by
  rw [badParam_deint_iff, Bool.not_eq_false]

/-- Settles O36: a row of the stream has a word of every block, and the rows end by `total`. -/
theorem deintStaysInsideStream : Obligations.DeintStaysInsideStream := by
  intro s hgood
  have hadm := (not_badParam_deint_iff s).1 hgood
  obtain ⟨htotal, hbs, -⟩ := (deintAdmitted_iff _ _ _ _).1 hadm
  have heo := parityOffset_le hadm
  refine ⟨fun k j hk hj => gather_data_lt hadm hk hj, fun k j hk hj => gather_parity_lt hadm hk hj, ?_, heo, htotal,
    blockCount_le htotal hbs (Nat.le_of_lt_succ s.rsNs.isLt), Nat.mul_le_mul_left 8 (heo.trans htotal)⟩
  unfold parityOffset blockCount
  ring

/-! The stream of data words. -/

/-- The blocks in order, cut at block `k`. -/
theorem range_eq_append_cons {k n : Nat} (hk : k < n) :
    List.range n = List.range k ++ k :: (List.range n).drop (k + 1) := by
  have hlen : k < (List.range n).length := by simpa using hk
  calc List.range n
      = (List.range n).take k ++ (List.range n).drop k := (List.take_append_drop k _).symm
    _ = List.range k ++ k :: (List.range n).drop (k + 1) := by
        rw [List.take_range, Nat.min_eq_left hk.le, List.drop_eq_getElem_cons hlen, List.getElem_range]

section
variable {raw : Nat → Byte} {total bs dw ns k : Nat}

/-- The data words that block `k` adds to the stream (R261). -/
def deintWords (raw : Nat → Byte) (total bs dw ns k : Nat) : List Byte :=
  (deintBlock raw total bs dw ns k).1.take (dataWordsOf dw ns k)

theorem deintBlocks_cons_of_corrected {ks : List Nat} (hk : (deintBlock raw total bs dw ns k).2 = true) :
    deintBlocks raw total bs dw ns (k :: ks) =
      (deintBlocks raw total bs dw ns ks).map (deintWords raw total bs dw ns k ++ ·) := by
  rw [deintBlocks_cons, if_neg (by simp [hk])]
  cases deintBlocks raw total bs dw ns ks <;> rfl

/-- R261: every block corrected, the stream is the data words of one block after the other. -/
theorem deintBlocks_of_corrected {ks : List Nat} (hks : ∀ k ∈ ks, (deintBlock raw total bs dw ns k).2 = true) :
    deintBlocks raw total bs dw ns ks = .ok (ks.flatMap (deintWords raw total bs dw ns)) := by
  induction ks with
  | nil => rfl
  | cons k ks ih =>
    obtain ⟨hk, hks⟩ := List.forall_mem_cons.1 hks
    rw [deintBlocks_cons_of_corrected hk, ih hks]
    rfl

/-- R261: the stream ends at the first block that fails. -/
theorem deintBlocks_of_first_failing {ks rest : List Nat}
    (hks : ∀ j ∈ ks, (deintBlock raw total bs dw ns j).2 = true) (hk : (deintBlock raw total bs dw ns k).2 = false) :
    deintBlocks raw total bs dw ns (ks ++ k :: rest) = .error k := by
  induction ks with
  | nil => exact if_pos hk
  | cons j ks ih =>
    obtain ⟨hj, hks⟩ := List.forall_mem_cons.1 hks
    rw [List.cons_append, deintBlocks_cons_of_corrected hj, ih hks]
    rfl

/-- R262: long blocks have one data word more, and as many parity words as short ones. -/
theorem dataWordsOf_add_parityCount (hdw : dw ≤ bs) (ns k : Nat) :
    dataWordsOf dw ns k + parityCount bs dw = blockSizeOf bs ns k := by
  unfold dataWordsOf parityCount blockSizeOf
  split <;> omega

theorem parityCount_blockSizeOf (hdw : dw ≤ bs) (ns k : Nat) :
    parityCount (blockSizeOf bs ns k) (dataWordsOf dw ns k) = parityCount bs dw :=
  Nat.sub_eq_of_eq_add' (dataWordsOf_add_parityCount hdw ns k).symm

theorem length_deintBlock (hdw : dw ≤ bs) : (deintBlock raw total bs dw ns k).1.length = blockSizeOf bs ns k :=
  length_correctBlock ((length_gather ..).trans (dataWordsOf_add_parityCount hdw ns k)) _

theorem length_deintWords (hdw : dw ≤ bs) : (deintWords raw total bs dw ns k).length = dataWordsOf dw ns k := by
  rw [deintWords, List.length_take, length_deintBlock hdw, ← dataWordsOf_add_parityCount hdw ns k]
  exact Nat.min_eq_left (Nat.le_add_right _ _)

theorem getD_deintWords {j : Nat} (hj : j < dataWordsOf dw ns k) :
    (deintWords raw total bs dw ns k).getD j 0 = (deintBlock raw total bs dw ns k).1.getD j 0 := by
  rw [deintWords, List.getD_eq_getElem?_getD, List.getElem?_take_of_lt hj, List.getD_eq_getElem?_getD]

/-- The blocks before block `n` hold `dw` words each, and one more for every long block. -/
theorem length_flatMap_deintWords (hdw : dw ≤ bs) (n : Nat) :
    ((List.range n).flatMap (deintWords raw total bs dw ns)).length = dw * n + (n - ns) := by
  rw [List.length_flatMap, funext fun k => length_deintWords (k := k) hdw, sum_dataWordsOf]

/-- R262: the parity region starts after the data words of all blocks. -/
theorem parityOffset_eq (total bs dw ns : Nat) :
    parityOffset total bs dw ns = dw * blockCount total bs ns + (blockCount total bs ns - ns) := by
  rw [parityOffset, blockCount, Nat.add_sub_cancel]

/-- A block's data words end before those of the blocks after it begin. -/
theorem dataOffset_lt {n j : Nat} (hk : k < n) (hj : j < dataWordsOf dw ns k) :
    dw * k + (k - ns) + j < dw * n + (n - ns) := by
  have hmul : dw * k + dw ≤ dw * n := Nat.mul_le_mul_left dw hk
  unfold dataWordsOf at hj
  split at hj <;> omega

/-- Where a data word of block `k` stands among those of the first `n` blocks. -/
theorem getD_flatMap_deintWords (hdw : dw ≤ bs) {n j : Nat} (hk : k < n) (hj : j < dataWordsOf dw ns k) :
    ((List.range n).flatMap (deintWords raw total bs dw ns)).getD (dw * k + (k - ns) + j) 0 =
      (deintBlock raw total bs dw ns k).1.getD j 0 := by
  rw [range_eq_append_cons hk, List.flatMap_append, List.flatMap_cons, ← length_flatMap_deintWords hdw k,
    List.getD_append_right _ _ _ _ (Nat.le_add_right _ _), Nat.add_sub_cancel_left,
    List.getD_append _ _ _ _ ((length_deintWords hdw).symm ▸ hj), getD_deintWords hj]

/-- R264: a gathered codeword is its own correction. -/
theorem deintBlock_of_clean (hdw : dw ≤ bs)
    (hclean : anyNonzero
      (blkSyndromes
        (gather raw (blockCount total bs ns) (parityOffset total bs dw ns) (dataWordsOf dw ns k) (parityCount bs dw) k)
        (blockSizeOf bs ns k) (parityCount bs dw)) = false) :
    deintBlock raw total bs dw ns k =
      (gather raw (blockCount total bs ns) (parityOffset total bs dw ns) (dataWordsOf dw ns k) (parityCount bs dw) k,
        true) :=
  correctBlock_of_clean (by rwa [parityCount_blockSizeOf hdw])

theorem getD_gather_data (bc eo npar : Nat) {kdw j : Nat} (hj : j < kdw) :
    (gather raw bc eo kdw npar k).getD j 0 = raw (j * bc + k) := by
  rw [gather, List.getD_append _ _ _ _ (by simpa using hj), List.getD_eq_getElem _ _ (by simpa using hj),
    List.getElem_map, List.getElem_range]

end

/-! The command. -/

/-- The frame of one change after another. -/
theorem sameBytesOutside_append {s t u : State} {bufs bufs' : List Buf} (hst : sameBytesOutside bufs s t)
    (htu : sameBytesOutside bufs' t u) : sameBytesOutside (bufs' ++ bufs) s u := fun a ha =>
  (htu a fun b hb => ha b (List.mem_append_left bufs hb)).trans
    (hst a fun b hb => ha b (List.mem_append_right bufs' hb))

/-- DEINT's result writes no byte outside DATA. -/
theorem State.sameBytesOutside_storeStream (s : State) {r : Except Nat (List Byte)}
    (hok : ∀ d, r = .ok d → d.length ≤ 8896) (bc : Nat) : sameBytesOutside [.data] s (s.storeStream r bc).2 := by
  intro a ha
  have hout := ha .data (by decide)
  have hdata : Buf.data.holds a = false := by rwa [← Bool.not_eq_true, Buf.holds_iff]
  obtain ⟨d, hd, h⟩ | ⟨_, -, h⟩ := s.storeStream_cases r bc <;> rw [h]
  · have hlen : d.length ≤ Buf.data.size := hok d hd
    exact (State.byteAt_writeBuf (s.unspecifyBuf .data) .data d a).trans
      ((if_neg fun hin => hout ⟨hin.1, by omega⟩).trans (s.byteAt_unspecifyBuf .data hdata))
  · exact s.byteAt_unspecifyBuf .data hdata

/-- A completion over new memory and R49's unspecified results changes no register but BM_L and its report. -/
theorem State.completedUpTo_unspecifyIntermediates (s : State) (mem : Memory) (gens : Gens) (draws : Nat)
    (c : ErrCode) :
    completedUpTo s
      (({ s with mem := mem, gens := gens, draws := draws } : State).unspecifyIntermediates.complete c) c.code :=
  ⟨_, _, _, _, _, congrArg
    (fun status =>
      { ({ s with mem := mem, gens := gens, draws := draws } : State).unspecifyIntermediates with
        status := status, irqPend := true })
    (Status.complete_eq _ c)⟩

/-- R261, R262: what DEINT's registers hold after a run with the given DATA_BITS and BLOCK_IDX. -/
def State.withDeintResults (s : State) (dataBits : BitVec 17) (blockIdx : BitVec 14) : State :=
  { s with
    dataBits := dataBits
    blockIdx := blockIdx
    deintInfo :=
      { lb := BitVec.ofNat 14 (longBlocks s.totalWords s.bs s.ns)
        bc := BitVec.ofNat 14 (blockCount s.totalWords s.bs s.ns) } }

/-- R261: DEINT on admitted operands leaves every byte outside S, SIGMA and DATA. -/
theorem sameBytesOutside_exec_deint {s t : State} (hadm : deintAdmitted s.totalWords s.bs s.dw s.ns = true)
    (h : exec .deint s = .next t) : sameBytesOutside [.s, .sigma, .data] s t := by
  obtain ⟨u, rfl, rfl⟩ := exec_deint_of_admitted hadm h
  exact sameBytesOutside_append (State.sameBytesOutside_storeStream _ (fun _ => length_deintStream_le hadm) _)
    (State.sameBytesOutside_unspecifyIntermediates _)

/-- R261: DEINT when every block is corrected. -/
theorem exec_deint_of_stream_ok {s t : State} {d : List Byte}
    (hadm : deintAdmitted s.totalWords s.bs s.dw s.ns = true)
    (hstream : deintStream (s.buf .raw) s.totalWords s.bs s.dw s.ns = .ok d) (h : exec .deint s = .next t) :
    completedUpTo
      (s.withDeintResults (BitVec.ofNat 17 (8 * d.length)) (BitVec.ofNat 14 (blockCount s.totalWords s.bs s.ns))) t 0 ∧
    ∀ i, i < d.length → t.buf .data i = d.getD i 0 := by
  obtain ⟨u, rfl, rfl⟩ := exec_deint_of_admitted hadm h
  rw [hstream]
  exact ⟨State.completedUpTo_unspecifyIntermediates (s.withDeintResults _ _) _ _ _ .success,
    fun i hi => State.buf_storeStream_ok _ d _ hi (length_deintStream_le hadm hstream)⟩

/-- R261: DEINT when block `k` is the first that fails. -/
theorem exec_deint_of_stream_error {s t : State} {k : Nat}
    (hadm : deintAdmitted s.totalWords s.bs s.dw s.ns = true)
    (hstream : deintStream (s.buf .raw) s.totalWords s.bs s.dw s.ns = .error k) (h : exec .deint s = .next t) :
    completedUpTo (s.withDeintResults 0 (BitVec.ofNat 14 k)) t 4 := by
  obtain ⟨u, rfl, rfl⟩ := exec_deint_of_admitted hadm h
  rw [hstream]
  exact State.completedUpTo_unspecifyIntermediates (s.withDeintResults _ _) _ _ _ .dataEcc

/-- Settles O33: the stream is the blocks' data words in order, and block `k`'s stand after those before it. -/
theorem deintConcatenatesBlocks : Obligations.DeintConcatenatesBlocks := by
  intro s hgood hcorrected
  have hadm := (not_badParam_deint_iff s).1 hgood
  obtain ⟨-, hdw, -⟩ := deintAdmitted_bounds hadm
  have hstream : deintStream (s.buf .raw) s.totalWords s.bs s.dw s.ns = .ok _ :=
    deintBlocks_of_corrected fun k hk => hcorrected k (List.mem_range.1 hk)
  obtain ⟨hdone, hdata⟩ := exec_deint_of_stream_ok hadm hstream (exec_deint s)
  rw [length_flatMap_deintWords hdw.le, ← parityOffset_eq] at hdone
  refine ⟨_, exec_deint s, hdone, fun k j hk hj => ?_, sameBytesOutside_exec_deint hadm (exec_deint s)⟩
  refine (hdata _ ?_).trans (getD_flatMap_deintWords hdw.le hk hj)
  rw [length_flatMap_deintWords hdw.le]
  exact dataOffset_lt hk hj

/-- Settles O34: the stream ends at block `k`. -/
theorem deintReportsFirstFailingBlock : Obligations.DeintReportsFirstFailingBlock := by
  intro s k hgood hk hfails hbefore
  have hadm := (not_badParam_deint_iff s).1 hgood
  have hstream : deintStream (s.buf .raw) s.totalWords s.bs s.dw s.ns = .error k := by
    rw [deintStream, range_eq_append_cons hk]
    exact deintBlocks_of_first_failing (fun j hj => hbefore j (List.mem_range.1 hj)) hfails
  exact ⟨_, exec_deint s, exec_deint_of_stream_error hadm hstream (exec_deint s),
    sameBytesOutside_exec_deint hadm (exec_deint s)⟩

/-- Settles O35: a clean block is its own correction, so DATA holds the gathered words. -/
theorem deintCopiesCleanStream : Obligations.DeintCopiesCleanStream := by
  intro s hgood hclean
  have hadm := (not_badParam_deint_iff s).1 hgood
  obtain ⟨htotal, hdw, -⟩ := deintAdmitted_bounds hadm
  have heo := parityOffset_le hadm
  have hblock k (hk : k < blockCount s.totalWords s.bs s.ns) := deintBlock_of_clean hdw.le (hclean k hk)
  obtain ⟨t, hexec, ⟨nz, bmL, mem, gens, draws, rfl⟩, hdata, -⟩ :=
    deintConcatenatesBlocks s hgood fun k hk => congrArg Prod.snd (hblock k hk)
  refine ⟨_, hexec, rfl, (BitVec.toNat_ofNat _ _).trans (Nat.mod_eq_of_lt (by omega)), fun k j hk hj => ?_⟩
  rw [hdata k j hk hj, hblock k hk, getD_gather_data _ _ _ hj]

end Sys2Proof.Machine
end

section
/-! SUPPORT. The completions of 60_exceptions.md (R302, R303): which operands a command refuses, and that no completion
keeps the next one from running. -/

namespace Sys2Proof.Machine

/-! Refused operands (R302). -/

/-- What a command answers about its operands: BAD_PARAM with the state as it is, exactly where R302 refuses them. -/
theorem commandEffect_badParam_cases (i : Instr) (s : State) :
    (badParam i s ∧ commandEffect i s = (.badParam, s)) ∨
    (¬ badParam i s ∧ (commandEffect i s).1 ≠ .badParam) := by
  cases i with
  | nop | gf256Mul | synd16 => exact .inr ⟨not_false, ErrCode.noConfusion⟩
  | gf16Mul =>
    obtain ⟨hbad, h⟩ | ⟨ha, hb, h⟩ := gf16MulEffect_cases s
    · exact .inl ⟨hbad, h⟩
    · exact .inr ⟨not_or.2 ⟨Nat.not_lt.2 ha, Nat.not_lt.2 hb⟩, by simp [commandEffect, h]⟩
  | synd256 =>
    rw [badParam_synd256_iff]
    obtain ⟨hbad, h⟩ | ⟨hgood, h⟩ := synd256Effect_cases s
    · exact .inl ⟨hbad, h⟩
    · exact .inr ⟨by simp [hgood], by simp [commandEffect, h]⟩
  | bm16 =>
    rw [badParam_bm16_iff]
    obtain ⟨hbad, h⟩ | ⟨hN, hin, h⟩ := bm16Effect_cases s
    · exact .inl ⟨hbad, h⟩
    · exact .inr ⟨by simp [hN, hin], by simp [commandEffect, h]⟩
  | bm256 =>
    obtain ⟨hbad, h⟩ | ⟨hN, h⟩ := bm256Effect_cases s
    · exact .inl ⟨hbad, h⟩
    · exact .inr ⟨Nat.not_lt.2 hN, by simp [commandEffect, h]⟩
  | fmtDec =>
    refine .inr ⟨not_false, ?_⟩
    obtain ⟨-, h⟩ | ⟨-, -, h⟩ | ⟨-, -, h⟩ := decodeFormat_cases s.fmtA s.fmtB <;>
      simp [commandEffect, fmtDecEffect, h]
  | rsDec =>
    rw [badParam_rsDec_iff]
    obtain ⟨hbad, h⟩ | ⟨hgood, h⟩ := rsDecEffect_cases s
    · exact .inl ⟨hbad, h⟩
    · refine .inr ⟨by simp [hgood], ?_⟩
      rw [commandEffect, h]
      split <;> exact ErrCode.noConfusion
  | deint =>
    rw [badParam_deint_iff]
    obtain ⟨hbad, h⟩ | ⟨hgood, u, -, h⟩ := deintEffect_cases s
    · exact .inl ⟨hbad, h⟩
    · refine .inr ⟨by simp [hgood], ?_⟩
      obtain ⟨_, -, hr⟩ | ⟨_, -, hr⟩ := u.storeStream_cases
        (deintStream (s.buf .raw) s.totalWords s.bs s.dw s.ns) (blockCount s.totalWords s.bs s.ns) <;>
        simp [commandEffect, h, hr]

/-- R300: 9 is the value of BAD_PARAM alone. -/
theorem ErrCode.code_ne_nine {c : ErrCode} (h : c ≠ .badParam) : c.code ≠ 9 := by
  cases c with
  | badParam => exact absurd rfl h
  | _ => decide

/-- Settles O12, by the two answers of a command about its operands. -/
theorem badParamExactlyByTable : Obligations.BadParamExactlyByTable := by
  intro i s
  rw [exec_eq_commandEffect]
  obtain ⟨hbad, heff⟩ | ⟨hgood, hcode⟩ := commandEffect_badParam_cases i s
  · rw [heff]
    exact ⟨fun _ => rfl, fun hgood => absurd hbad hgood⟩
  · exact ⟨fun hbad => absurd hbad hgood, fun _ => ⟨_, rfl, ErrCode.code_ne_nine hcode⟩⟩

/-! Errors do not stop the engine (R303). -/

/-- Settles O48: a completion leaves the engine idle and the reset line as it was, so the next write to CMD is a
launch. -/
theorem errorsDoNotStopTheEngine : Obligations.ErrorsDoNotStopTheEngine := by
  intro w v s hreset
  obtain ⟨t, c, hexec, -, -, -, hline, -⟩ := execute_completes w s
  exact ⟨_, _, hexec, launchWritesExactly (t.complete c) v rfl (hline.trans hreset), rfl, rfl, rfl, rfl, rfl, rfl⟩

end Sys2Proof.Machine
end

section
/-! SUPPORT. The interrupt output (60_exceptions.md R310) and the steps that stop (R303, R311; 70_reset_and_hazards.md
R330). -/

namespace Sys2Proof.Machine

/-- Settles O45: every completion sets the pending bit and leaves the enable, and the two registers take their writes
busy or idle. -/
theorem interruptFollowsPendingAndEnable : Obligations.InterruptFollowsPendingAndEnable := by
  refine fun s => ⟨rfl, fun w => ?_, fun v hreset => ?_, fun v hreset => ?_, fun _ => rfl, rfl⟩
  · obtain ⟨t, c, hexec, -, hirqEn, -⟩ := execute_completes w s
    exact ⟨_, hexec, rfl, hirqEn⟩
  · exact ⟨_, hostEvent_write_writableWhileBusy (r := .irqPend) rfl v hreset, rfl, rfl⟩
  · exact ⟨_, hostEvent_write_writableWhileBusy (r := .irqEn) rfl v hreset, rfl, rfl⟩

/-- The next step is a host access while the reset input is asserted (R330). -/
def State.accessDuringResetNext (s : State) : Prop :=
  s.engineTurn = false ∧ s.resetLine = true ∧ ∃ x xs a, s.inputs = x :: xs ∧ x.event = .access a

/-- A step answers a next state, or it is an access during reset and faults. -/
theorem step_answers_or_faults (s : State) :
    (¬ s.accessDuringResetNext ∧ ∃ t, step s = .next t) ∨
    (s.accessDuringResetNext ∧ step s = .fault .accessDuringReset) := by
  cases hturn : s.engineTurn with
  | true =>
    obtain ⟨t, c, hexec, -⟩ := execute_completes s.cmd s
    exact .inl ⟨fun ⟨hhost, _⟩ => Bool.false_ne_true (hhost.symm.trans hturn), _,
      (step_of_engineTurn hturn).trans hexec⟩
  | false =>
    rw [step_of_hostTurn hturn]
    cases hinputs : s.inputs with
    | nil =>
      refine .inl ⟨?_, s, hostTurn_of_nil hinputs⟩
      rintro ⟨-, -, x, xs, a, hcons, -⟩
      exact List.cons_ne_nil x xs (hcons.symm.trans hinputs)
    | cons x xs =>
      rw [hostTurn_of_cons hinputs]
      obtain ⟨a, hx, hreset, h⟩ | ⟨a, hx, hreset, h⟩ | ⟨b, hx, h⟩ := hostEvent_cases x.event { s with inputs := xs }
      · exact .inr ⟨⟨hturn, hreset, x, xs, a, hinputs, hx⟩, h⟩
      · exact .inl ⟨fun ⟨_, hline, _⟩ => Bool.false_ne_true (hreset.symm.trans hline), _, h⟩
      · refine .inl ⟨?_, _, h⟩
        rintro ⟨-, -, x', xs', a, hcons, ha⟩
        obtain ⟨rfl, -⟩ := List.cons.inj (hcons.symm.trans hinputs)
        exact Event.noConfusion (ha.symm.trans hx)

/-- Settles O49, by the two outcomes of a step. -/
theorem onlyStopIsAccessDuringReset : Obligations.OnlyStopIsAccessDuringReset := by
  intro s
  obtain ⟨hno, t, h⟩ | ⟨hacc, h⟩ := step_answers_or_faults s <;> rw [h]
  · exact ⟨fun _ => nofun, fun _ => ⟨nofun, fun ⟨_, hacc⟩ => absurd hacc hno⟩⟩
  · refine ⟨fun _ => nofun, fun r => ⟨fun hr => ⟨(Host.Outcome.fault.inj hr).symm, hacc⟩, ?_⟩⟩
    rintro ⟨rfl, -⟩
    rfl

end Sys2Proof.Machine
end

section
/-! SUPPORT. Several instances on one platform (60_exceptions.md R320): a step of one changes that one alone, and reads
no other. -/

namespace Sys2Proof.Machine

/-- R320: a step at an index is a change of the instance there, the same on every platform with that instance there. -/
theorem Platform.stepAt_eq_modify {p q : Platform} {k : Nat} (h : p.stepAt k = .next q) :
    ∃ f : Instance → Instance, ∀ p' : Platform, p'[k]? = p[k]? → p'.stepAt k = .next (p'.modify k f) := by
  cases hk : p[k]? with
  | none => exact ⟨id, fun p' hp' => by simp [Platform.stepAt, hp', List.modify_id]⟩
  | some n =>
    cases hstep : step n.core with
    | next s =>
      refine ⟨fun _ => { n with core := s }, fun p' hp' => ?_⟩
      simp [Platform.stepAt, hp', hstep, List.set_eq_modify]
    | fault r => simp [Platform.stepAt, hk, hstep] at h
    | refused r => simp [Platform.stepAt, hk, hstep] at h

/-- Settles O50: the two steps are changes at different indices, which leave each other's instance and commute. -/
theorem instancesAreIndependent : Obligations.InstancesAreIndependent := by
  intro p q q' j k hne hj hk
  obtain ⟨f, hf⟩ := Platform.stepAt_eq_modify hj
  obtain ⟨g, hg⟩ := Platform.stepAt_eq_modify hk
  obtain rfl : p.modify j f = q := Host.Outcome.next.inj ((hf p rfl).symm.trans hj)
  obtain rfl : p.modify k g = q' := Host.Outcome.next.inj ((hg p rfl).symm.trans hk)
  have hkept : (p.modify j f)[k]? = p[k]? := List.getElem?_modify_ne f p hne
  have hkept' : (p.modify k g)[j]? = p[j]? := List.getElem?_modify_ne g p hne.symm
  refine ⟨hkept, _, hg _ hkept, ?_⟩
  rw [hf _ hkept', List.modify_modify_ne f g p hne]

end Sys2Proof.Machine
end

section
/-! SUPPORT. The reset input (70_reset_and_hazards.md R330), and the host's wait (R345, R346): the polls that find the
engine busy leave nothing but their answers, and no command reads the answers. -/

namespace Sys2Proof.Machine

/-! The reset input (R330). -/

theorem State.resetTo_readReg (s : State) (b : Bool) (r : Reg) : (s.resetTo b).readReg r = State.reset.readReg r := by
  cases r <;> rfl

/-- Settles O47: either change of the line leaves the reset values. -/
theorem resetInputDiscardsCommand : Obligations.ResetInputDiscardsCommand := by
  intro s b hline
  have hnext : hostEvent (.resetLine b) s = .next (s.resetTo b) := congrArg Host.Outcome.next (if_pos hline)
  exact ⟨_, hnext, s.resetTo_readReg b, rfl, rfl, rfl, rfl, rfl, rfl⟩

/-! A command does not see the answers. -/

/-- The state with another list of answers. -/
def State.withAnswers (s : State) (as : List Answer) : State := { s with answers := as }

/-- Another list of answers in what a command returns. -/
def withAnswersIn (as : List Answer) (r : ErrCode × State) : ErrCode × State := (r.1, r.2.withAnswers as)

theorem State.storeStream_withAnswers (s : State) (as : List Answer) (r : Except Nat (List Byte)) (bc : Nat) :
    (s.withAnswers as).storeStream r bc = withAnswersIn as (s.storeStream r bc) := by
  cases r <;> rfl

theorem deintEffect_withAnswers (s : State) (as : List Answer) :
    deintEffect (s.withAnswers as) = withAnswersIn as (deintEffect s) := by
  rw [deintEffect, deintEffect, apply_ite (withAnswersIn as)]
  refine if_congr Iff.rfl rfl ?_
  exact congrArg (fun r => (r.1, r.2.unspecifyIntermediates)) <|
    State.storeStream_withAnswers
      { s with deintInfo := { lb := BitVec.ofNat 14 (longBlocks s.totalWords s.bs s.ns)
                              bc := BitVec.ofNat 14 (blockCount s.totalWords s.bs s.ns) } }
      as (deintStream (s.buf .raw) s.totalWords s.bs s.dw s.ns) (blockCount s.totalWords s.bs s.ns)

/-- Every command returns the same code and results whatever the port has answered before. -/
theorem commandEffect_withAnswers (i : Instr) (s : State) (as : List Answer) :
    commandEffect i (s.withAnswers as) = withAnswersIn as (commandEffect i s) := by
  cases i with
  | nop | gf256Mul | synd16 | fmtDec => rfl
  | gf16Mul | synd256 | bm16 | bm256 | rsDec =>
    simp only [commandEffect, gf16MulEffect, synd256Effect, bm16Effect, bm256Effect, rsDecEffect,
      apply_ite (withAnswersIn as)]
    rfl
  | deint => exact deintEffect_withAnswers s as

/-- The state a command's completion leaves: the report over its effect. -/
def State.completedBy (i : Instr) (s : State) : State := (commandEffect i s).2.complete (commandEffect i s).1

theorem State.completedBy_withAnswers (i : Instr) (s : State) (as : List Answer) :
    (s.withAnswers as).completedBy i = (s.completedBy i).withAnswers as := by
  rw [State.completedBy, commandEffect_withAnswers]
  rfl

/-- A completion leaves the reset line and the host's inputs. -/
theorem State.completedBy_frame (i : Instr) (s : State) :
    (s.completedBy i).resetLine = s.resetLine ∧ (s.completedBy i).inputs = s.inputs := by
  obtain ⟨t, c, h, -, -, -, hline, hinputs, -⟩ := exec_completes i s
  have heq : s.completedBy i = t.complete c := Host.Outcome.next.inj ((exec_eq_commandEffect i s).symm.trans h)
  exact heq ▸ ⟨hline, hinputs⟩

/-! A launch and its wait, step by step (R345). -/

theorem run_succ_of_step {s t : State} (h : step s = .next t) (k : Nat) :
    Host.Core.run Sys2Proof.core (k + 1) s = Host.Core.run Sys2Proof.core k t := by
  have hcore : Sys2Proof.core.step s = .next t := h
  simp only [Host.Core.run, hcore]

/-- An idle engine takes the host's write of a command to CMD as its launch. -/
theorem step_cmd {s : State} {i : Instr} {xs : List Input} (hinputs : s.inputs = cmd i :: xs)
    (hidle : s.status.busy = false) (hreset : s.resetLine = false) :
    step s = .next { s.launch (encode i) with inputs := xs, answers := .written :: s.answers } :=
  ((stepTakesNextInput s).2 _ _ hinputs (.inl hidle)).trans
    (launchWritesExactly { s with inputs := xs } (encode i) hidle hreset)

/-- A read of STATUS that is the host's turn answers STATUS, busy or idle (R88), and leaves the rest. -/
theorem step_read_status {s : State} {x : Input} {xs : List Input} (hinputs : s.inputs = x :: xs)
    (hread : x.event = .access (.read .w32 0x008)) (hturn : s.status.busy = false ∨ x.afterCompletion = false)
    (hreset : s.resetLine = false) :
    step s = .next { s with inputs := xs, answers := .data s.status.toWord :: s.answers } := by
  rw [(stepTakesNextInput s).2 _ _ hinputs hturn, hread]
  exact hostEvent_read_exact (s := { s with inputs := xs }) (readTarget_offset .status) (.inr rfl) hreset

/-- Polls that find the engine busy leave nothing but their answers. -/
theorem run_polls (k polls : Nat) (rest : List Input) {s : State}
    (hinputs : s.inputs = List.replicate polls (rd 0x008) ++ rest) (hreset : s.resetLine = false) :
    ∃ as, Host.Core.run Sys2Proof.core (polls + k) s =
      Host.Core.run Sys2Proof.core k { s with inputs := rest, answers := as } := by
  induction polls generalizing s with
  | zero =>
    obtain rfl : s.inputs = rest := hinputs
    exact ⟨s.answers, congrArg (Host.Core.run Sys2Proof.core · s) (Nat.zero_add k)⟩
  | succ polls ih =>
    have hstep := step_read_status hinputs rfl (.inr rfl) hreset
    rw [Nat.add_right_comm, run_succ_of_step hstep]
    exact ih rfl hreset

/-- The completion of a launched command, with the last read of its `wait` still to come. -/
def State.completedBeforeRead (s : State) (i : Instr) : State :=
  ({ s.launch (encode i) with inputs := wait 0 } : State).completedBy i

/-- R345: a launch and its `wait` end in the completion's state with the last read answered, whatever was polled. -/
theorem run_cmd_wait (s : State) (i : Instr) (polls : Nat) (hidle : s.status.busy = false)
    (hreset : s.resetLine = false) :
    ∃ as, Host.Core.run Sys2Proof.core (polls + 3) { s with inputs := cmd i :: wait polls } =
      .next { s.completedBeforeRead i with
                inputs := [], answers := .data (s.completedBeforeRead i).status.toWord :: as } := by
  have hlaunch := step_cmd (s := { s with inputs := cmd i :: wait polls }) rfl hidle hreset
  obtain ⟨as, hpolls⟩ := run_polls 2 polls (wait 0)
    (s := { s.launch (encode i) with inputs := wait polls, answers := .written :: s.answers }) rfl hreset
  have hcomplete := stepRunsDecodedCommand
    { s.launch (encode i) with inputs := wait 0, answers := as } i rfl (.inr ⟨_, _, rfl, rfl⟩) (encodeThenDecode i)
  have heffect := State.completedBy_withAnswers i { s.launch (encode i) with inputs := wait 0 } as
  obtain ⟨hline, hinputs⟩ := State.completedBy_frame i { s.launch (encode i) with inputs := wait 0 }
  have hread := step_read_status (s := (s.completedBeforeRead i).withAnswers as) hinputs rfl (.inl rfl)
    (hline.trans hreset)
  refine ⟨as, ?_⟩
  calc Host.Core.run Sys2Proof.core (polls + 3) { s with inputs := cmd i :: wait polls }
      = Host.Core.run Sys2Proof.core 2 { s.launch (encode i) with inputs := wait 0, answers := as } :=
        (run_succ_of_step hlaunch (polls + 2)).trans hpolls
    _ = Host.Core.run Sys2Proof.core 1 ((s.completedBeforeRead i).withAnswers as) :=
        run_succ_of_step (hcomplete.trans <| (exec_eq_commandEffect i _).trans <| congrArg _ heffect) 1
    _ = _ := run_succ_of_step hread 0

/-- Settles O57: both runs end in the completion's state with the last read answered. -/
theorem pollCountDoesNotMatter : Obligations.PollCountDoesNotMatter := by
  intro s i polls hidle hreset _
  obtain ⟨as, hrun⟩ := run_cmd_wait s i polls hidle hreset
  obtain ⟨as₀, hrun₀⟩ := run_cmd_wait s i 0 hidle hreset
  exact ⟨_, _, hrun, hrun₀, rfl, rfl, rfl, rfl, rfl⟩

end Sys2Proof.Machine
end
